-- ==== Sys2Proof/Word.lean ====
section
/-! DEFINITION. The words of the block: bytes of the line and 32-bit registers of the host window (R9, R46). -/

namespace Sys2Proof

/-- A byte, 0 to 255, bit 0 the least significant (R9). -/
abbrev Byte := BitVec 8

/-- A register of the host window, 32 bits (R46). -/
abbrev Word := BitVec 32

/-- A byte offset in the 256-byte register window (R46, R109). -/
abbrev Offset := BitVec 8

end Sys2Proof
end

