-- ==== Sys2Proof/Config.lean ====
section
/-! DEFINITION. The fixed wire constants (R6) and the implementation parameters (R8). -/

namespace Sys2Proof

namespace Wire

/-- ESC, the escape byte (R6). -/
abbrev esc : Byte := 0x10#8
/-- SOF, the start marker (R6). -/
abbrev sof : Byte := 0x00#8
/-- EOF, the end marker (R6). -/
abbrev eof : Byte := 0xFF#8
/-- ACKB, the ACK byte (R6). -/
abbrev ackB : Byte := 0x11#8
/-- NAKB, the NAK byte (R6). -/
abbrev nakB : Byte := 0x12#8
/-- MK_E2T, the direction marker ECR to terminal (R6). -/
abbrev mkE2T : Byte := 0x11#8
/-- MK_T2E, the direction marker terminal to ECR (R6). -/
abbrev mkT2E : Byte := 0x91#8
/-- LF, the line terminator (R6). -/
abbrev lf : Byte := 0x0A#8

end Wire

/-- The parameters the source leaves open (R8; BASE: R81). They are arguments of the model: a machine
keeps them for ever, and a statement about every state is a statement about every choice of them. -/
structure Params where
  /-- RXBUF_MAX: capacity of `asm`, in logical bytes. -/
  rxbufMax : Nat
  /-- TX_PAYLOAD_MAX: capacity of `stage`, in bytes. -/
  txPayloadMax : Nat
  /-- TXQ_DEPTH: capacity of `txq`, in frames, the in-flight frame included. -/
  txqDepth : Nat
  /-- RXQ_DEPTH: capacity of `rxq`, in messages. -/
  rxqDepth : Nat
  /-- TIMEOUT_RESET: reset value of TIMEOUT, in ticks. -/
  timeoutReset : BitVec 16
  /-- TICK_PERIOD: real time between two ticks. No rule reads it (R318). -/
  tickPeriod : Nat
  /-- BASE: the platform's base address of the register window. Every rule uses offsets from it (R81). -/
  base : Nat
deriving DecidableEq, Repr

/-- The legal ranges of R8. -/
abbrev Params.Legal (p : Params) : Prop :=
  (4 ≤ p.rxbufMax ∧ p.rxbufMax ≤ 65535) ∧ (1 ≤ p.txPayloadMax ∧ p.txPayloadMax ≤ 65534) ∧
    (1 ≤ p.txqDepth ∧ p.txqDepth ≤ 255) ∧ (1 ≤ p.rxqDepth ∧ p.rxqDepth ≤ 255)

/-- The parameters `State.reset` carries. DESIGN CHOICE (log entries 1, 2; unsafe): the spec leaves all of them
open; these are the values its test vectors are stated for. -/
def Config.params : Params where
  rxbufMax := 64
  txPayloadMax := 32
  txqDepth := 4
  rxqDepth := 4
  timeoutReset := 2
  tickPeriod := 1
  base := 0

end Sys2Proof
end

