-- ==== Sys2Proof/Syntax.lean ====
section
/-! DEFINITION. The syntax of the block's operations: receive states, events, and one constructor of `Instr` per row
of spec/opcode_table.json. The block has no instruction set; an operation is its response to one event (R2). -/

namespace Sys2Proof

/-- The seven states of the receive machine (R33). Code 7 of R34 is never held and has no constructor. -/
inductive RxState where
  | idle
  | idleEscape
  | seqNo
  | seqNoEscape
  | type
  | infoFrame
  | infoFrameEscape
deriving DecidableEq, Repr

/-- A host access of the register window: operation, byte offset, width in bytes, and for a write its 32-bit value
(R109). -/
inductive HostAccess where
  | read (off : Offset) (n : Nat)
  | write (off : Offset) (n : Nat) (v : Word)
deriving DecidableEq, Repr

/-- The input events (R30): the block takes one step per event. -/
inductive Event where
  | rxByte (b : Byte)
  | tick
  | host (a : HostAccess)
  | reset
deriving DecidableEq, Repr

/-- The marker enables CTRL.ACC11 and CTRL.ACC91, which the receive decode reads in `Type` (R106). -/
structure Markers where
  acc11 : Bool
  acc91 : Bool
deriving DecidableEq, Repr

/-- What a decoder of the block reads: the 11-bit receive decode word (R106), the 32-bit command word (R110), or an
input event with its operands (R30, R109). -/
inductive Code where
  | rx (rxw : BitVec 11)
  | cmd (v : Word)
  | event (e : Event)
deriving DecidableEq, Repr

/-- The rows of R112, each catch-all row with the byte it takes. -/
inductive RxRow where
  | idleEsc
  | idleStray (b : Byte)
  | iescSof
  | iescAck
  | iescNak
  | iescOther (b : Byte)
  | seqEsc
  | seqData (b : Byte)
  | sescEsc
  | sescBad (b : Byte)
  | typeMk11
  | typeMk91
  | typeBad (b : Byte)
  | infoEsc
  | infoData (b : Byte)
  | ifescEsc
  | ifescEof
  | ifescAck
  | ifescSof
  | ifescBad (b : Byte)
deriving DecidableEq, Repr

/-- The rows of R111; the reserved row keeps the word. -/
inductive CmdRow where
  | nop
  | enqueue
  | rxPop
  | txStageClr
  | linkReset
  | cntClr
  | reserved (v : Word)
deriving DecidableEq, Repr

/-- The operations of spec/opcode_table.json, one constructor per row. A row that matches more than one word keeps
what it matched: `b` a received byte, `v` a written value, `off` an offset, `a` a whole access. -/
inductive Instr where
  -- receive rows (R163 to R181)
  /-- RX.IDLE.ESC (R163). -/
  | rxIdleEsc
  /-- RX.IDLE.STRAY (R164). -/
  | rxIdleStray (b : Byte)
  /-- RX.IESC.SOF (R165). -/
  | rxIescSof
  /-- RX.IESC.ACK (R166). -/
  | rxIescAck
  /-- RX.IESC.NAK (R167). -/
  | rxIescNak
  /-- RX.IESC.OTHER (R168). -/
  | rxIescOther (b : Byte)
  /-- RX.SEQ.ESC (R169). -/
  | rxSeqEsc
  /-- RX.SEQ.DATA (R170). -/
  | rxSeqData (b : Byte)
  /-- RX.SESC.ESC (R171). -/
  | rxSescEsc
  /-- RX.SESC.BAD (R172). -/
  | rxSescBad (b : Byte)
  /-- RX.TYPE.MK11 (R173). -/
  | rxTypeMk11
  /-- RX.TYPE.MK91 (R173). -/
  | rxTypeMk91
  /-- RX.TYPE.BAD (R174). -/
  | rxTypeBad (b : Byte)
  /-- RX.INFO.ESC (R175). -/
  | rxInfoEsc
  /-- RX.INFO.DATA (R176). -/
  | rxInfoData (b : Byte)
  /-- RX.IFESC.ESC (R177). -/
  | rxIfescEsc
  /-- RX.IFESC.EOF (R178). -/
  | rxIfescEof
  /-- RX.IFESC.ACK (R179). -/
  | rxIfescAck
  /-- RX.IFESC.SOF (R180). -/
  | rxIfescSof
  /-- RX.IFESC.BAD (R181). -/
  | rxIfescBad (b : Byte)
  -- command rows (R272 to R278)
  /-- CMD.NOP (R272). -/
  | cmdNop
  /-- CMD.ENQUEUE (R273). -/
  | cmdEnqueue
  /-- CMD.RX_POP (R274). -/
  | cmdRxPop
  /-- CMD.TX_STAGE_CLR (R275). -/
  | cmdTxStageClr
  /-- CMD.LINK_RESET (R276). -/
  | cmdLinkReset
  /-- CMD.CNT_CLR (R277). -/
  | cmdCntClr
  /-- CMD.RESERVED (R278). -/
  | cmdReserved (v : Word)
  -- the access every narrow, wide or misaligned access selects (R83)
  /-- HOST.BUS_ERROR (R83). -/
  | hostBusError (a : HostAccess)
  -- read rows (R260)
  /-- RD.CTRL (R260). -/
  | rdCtrl
  /-- RD.STATUS (R260). -/
  | rdStatus
  /-- RD.MAX_TRIES (R260). -/
  | rdMaxTries
  /-- RD.TIMEOUT (R260). -/
  | rdTimeout
  /-- RD.TX_SEQ (R260). -/
  | rdTxSeq
  /-- RD.HEAD_TRIES (R260). -/
  | rdHeadTries
  /-- RD.HEAD_ELAPSED (R260). -/
  | rdHeadElapsed
  /-- RD.LAST_ACC (R260). -/
  | rdLastAcc
  /-- RD.TX_DATA (R260). -/
  | rdTxData
  /-- RD.CMD (R260). -/
  | rdCmd
  /-- RD.TX_STAGE_LEN (R260). -/
  | rdTxStageLen
  /-- RD.CAP0 (R260). -/
  | rdCap0
  /-- RD.CAP1 (R260). -/
  | rdCap1
  /-- RD.RX_INFO (R267). -/
  | rdRxInfo
  /-- RD.RX_DATA (R266). -/
  | rdRxData
  /-- RD.LAST_EVT (R260). -/
  | rdLastEvt
  /-- RD.IRQ_PENDING (R260). -/
  | rdIrqPending
  /-- RD.IRQ_ENABLE (R260). -/
  | rdIrqEnable
  /-- RD.CRCERR_CRC (R260). -/
  | rdCrcerrCrc
  /-- RD.CRCERR_HDR (R260). -/
  | rdCrcerrHdr
  /-- RD.DROP_INFO (R260). -/
  | rdDropInfo
  /-- RD.RX_ASM_LEN (R260). -/
  | rdRxAsmLen
  /-- RD.CNT_RX_OK (R260). -/
  | rdCntRxOk
  /-- RD.CNT_RX_DUP (R260). -/
  | rdCntRxDup
  /-- RD.CNT_RX_CONFLICT (R260). -/
  | rdCntRxConflict
  /-- RD.CNT_RX_CRC (R260). -/
  | rdCntRxCrc
  /-- RD.CNT_RX_BADMARKER (R260). -/
  | rdCntRxBadmarker
  /-- RD.CNT_RX_BADESC (R260). -/
  | rdCntRxBadesc
  /-- RD.CNT_RX_STRAY (R260). -/
  | rdCntRxStray
  /-- RD.CNT_RX_ABORT (R260). -/
  | rdCntRxAbort
  /-- RD.CNT_RX_OVERFLOW (R260). -/
  | rdCntRxOverflow
  /-- RD.CNT_RX_OVERRUN (R260). -/
  | rdCntRxOverrun
  /-- RD.CNT_ACK_RX (R260). -/
  | rdCntAckRx
  /-- RD.CNT_NAK_RX (R260). -/
  | rdCntNakRx
  /-- RD.CNT_TX_FRAMES (R260). -/
  | rdCntTxFrames
  /-- RD.CNT_TX_RETRY (R260). -/
  | rdCntTxRetry
  /-- RD.CNT_TX_DROP (R260). -/
  | rdCntTxDrop
  /-- RD.CNT_TX_ACKED (R260). -/
  | rdCntTxAcked
  /-- RD.RESERVED_058 (R260). -/
  | rdReserved058 (off : Offset)
  /-- RD.RESERVED_060 (R260). -/
  | rdReserved060 (off : Offset)
  /-- RD.RESERVED_0C0 (R260). -/
  | rdReserved0C0 (off : Offset)
  -- write rows (R261)
  /-- WR.CTRL (R262). -/
  | wrCtrl (v : Word)
  /-- WR.MAX_TRIES (R263). -/
  | wrMaxTries (v : Word)
  /-- WR.TIMEOUT (R264). -/
  | wrTimeout (v : Word)
  /-- WR.TX_SEQ (R265). -/
  | wrTxSeq (v : Word)
  /-- WR.TX_DATA (R270). -/
  | wrTxData (v : Word)
  /-- WR.CMD (R271). -/
  | wrCmd (v : Word)
  /-- WR.IRQ_PENDING (R268). -/
  | wrIrqPending (v : Word)
  /-- WR.IRQ_ENABLE (R269). -/
  | wrIrqEnable (v : Word)
  /-- WR.IGNORED (R261). -/
  | wrIgnored (off : Offset) (v : Word)
  -- event rows (R161, R222, R340)
  /-- EV.RX_BYTE (R161). -/
  | evRxByte (b : Byte)
  /-- EV.TICK (R222). -/
  | evTick
  /-- EV.RESET (R340). -/
  | evReset
deriving DecidableEq, Repr

end Sys2Proof
end

