-- ==== Sys2Proof/WellFormed.lean ====
section
/-! DEFINITION. Which operations are well formed: those whose operands the row of spec/opcode_table.json admits, with
the rows tried before it taken away ("the first row that matches wins", R106, R111). -/

namespace Sys2Proof

/-- An access of width 4 at an aligned offset, the only defined access (R83). -/
def wordAccess (off : Offset) (n : Nat) : Bool :=
  n == 4 && off.extractLsb' 0 2 == 0#2

/-- The offsets of the eight registers a write changes (R261). -/
def writableOffsets : List Offset :=
  [0x00, 0x08, 0x0C, 0x10, 0x20, 0x24, 0x40, 0x44]

/-- Well-formedness of an operation under the marker enables `m` (read by the rows of `Type` alone, R106). -/
def Instr.wellFormed (m : Markers) : Instr → Bool
  | .rxIdleStray b => b != Wire.esc  -- R164: any byte but ESC
  | .rxIescOther b => b != Wire.sof && b != Wire.ackB && b != Wire.nakB  -- R168: none of SOF, ACKB, NAKB
  | .rxSeqData b => b != Wire.esc  -- R170: any byte but ESC
  | .rxSescBad b => b != Wire.esc  -- R172: any byte but ESC
  | .rxTypeBad b => !(b == Wire.mkE2T && m.acc11 || b == Wire.mkT2E && m.acc91)  -- R174: no known marker
  | .rxInfoData b => b != Wire.esc  -- R176: any byte but ESC
  | .rxIfescBad b => b != Wire.esc && b != Wire.eof && b != Wire.ackB && b != Wire.sof  -- R181: none of ESC, EOF, ACKB, SOF
  | .rxTypeMk11 => m.acc11  -- R173: 0x11 is known when ACC11 = 1
  | .rxTypeMk91 => m.acc91  -- R173: 0x91 is known when ACC91 = 1
  | .cmdReserved v => 6 ≤ v.toNat  -- R278: OP 6 to 15 or an MBZ bit set
  | .hostBusError (.read off n) => !wordAccess off n  -- R83
  | .hostBusError (.write off n _) => !wordAccess off n  -- R83
  | .rdReserved058 off => wordAccess off 4 && off &&& 0xF8 == 0x58  -- R63: 0x058 to 0x05F
  | .rdReserved060 off => wordAccess off 4 && off &&& 0xE0 == 0x60  -- R63: 0x060 to 0x07F
  | .rdReserved0C0 off => wordAccess off 4 && off &&& 0xC0 == 0xC0  -- R63: 0x0C0 to 0x0FF
  | .wrIgnored off _ => wordAccess off 4 && !writableOffsets.contains off  -- R261: every other aligned offset
  | .rxIdleEsc | .rxIescSof | .rxIescAck | .rxIescNak | .rxSeqEsc | .rxSescEsc | .rxInfoEsc | .rxIfescEsc
  | .rxIfescEof | .rxIfescAck | .rxIfescSof | .cmdNop | .cmdEnqueue | .cmdRxPop | .cmdTxStageClr | .cmdLinkReset
  | .cmdCntClr | .rdCtrl | .rdStatus | .rdMaxTries | .rdTimeout | .rdTxSeq | .rdHeadTries | .rdHeadElapsed
  | .rdLastAcc | .rdTxData | .rdCmd | .rdTxStageLen | .rdCap0 | .rdCap1 | .rdRxInfo | .rdRxData | .rdLastEvt
  | .rdIrqPending | .rdIrqEnable | .rdCrcerrCrc | .rdCrcerrHdr | .rdDropInfo | .rdRxAsmLen | .rdCntRxOk
  | .rdCntRxDup | .rdCntRxConflict | .rdCntRxCrc | .rdCntRxBadmarker | .rdCntRxBadesc | .rdCntRxStray
  | .rdCntRxAbort | .rdCntRxOverflow | .rdCntRxOverrun | .rdCntAckRx | .rdCntNakRx | .rdCntTxFrames
  | .rdCntTxRetry | .rdCntTxDrop | .rdCntTxAcked | .wrCtrl _ | .wrMaxTries _ | .wrTimeout _ | .wrTxSeq _
  | .wrTxData _ | .wrCmd _ | .wrIrqPending _ | .wrIrqEnable _ | .evRxByte _ | .evTick | .evReset => true

end Sys2Proof
end

