-- ==== Sys2Proof/Decode.lean ====
section
/-! DEFINITION. The decoders (R106, R109 to R112) and, after them, the encoder. The receive decode is by state and
byte, the command decode by value, the host decode by offset after the width and alignment check. -/

namespace Sys2Proof

/-- The 3-bit code of a receive state (R34, D32). -/
def RxState.code : RxState → BitVec 3
  | .idle => 0
  | .idleEscape => 1
  | .seqNo => 2
  | .seqNoEscape => 3
  | .type => 4
  | .infoFrame => 5
  | .infoFrameEscape => 6

/-- The receive state of a code; code 7 is never held (R34). -/
def RxState.ofCode (c : BitVec 3) : Option RxState :=
  if c = 0 then some .idle
  else if c = 1 then some .idleEscape
  else if c = 2 then some .seqNo
  else if c = 3 then some .seqNoEscape
  else if c = 4 then some .type
  else if c = 5 then some .infoFrame
  else if c = 6 then some .infoFrameEscape
  else none

/-- "known" of R112: the marker's enable is 1. -/
def Markers.known (m : Markers) (b : Byte) : Bool :=
  b == Wire.mkE2T && m.acc11 || b == Wire.mkT2E && m.acc91

/-- The receive decode (R112): within a state the rows are tried in order, and every byte selects one. -/
def rxRow (m : Markers) (st : RxState) (b : Byte) : RxRow :=
  match st with
  | .idle =>
    if b = Wire.esc then .idleEsc else .idleStray b
  | .idleEscape =>
    if b = Wire.sof then .iescSof
    else if b = Wire.ackB then .iescAck
    else if b = Wire.nakB then .iescNak
    else .iescOther b
  | .seqNo =>
    if b = Wire.esc then .seqEsc else .seqData b
  | .seqNoEscape =>
    if b = Wire.esc then .sescEsc else .sescBad b
  | .type =>
    if m.known b then (if b = Wire.mkE2T then .typeMk11 else .typeMk91) else .typeBad b
  | .infoFrame =>
    if b = Wire.esc then .infoEsc else .infoData b
  | .infoFrameEscape =>
    if b = Wire.esc then .ifescEsc
    else if b = Wire.eof then .ifescEof
    else if b = Wire.ackB then .ifescAck
    else if b = Wire.sof then .ifescSof
    else .ifescBad b

/-- The command decode (R111): the rows are tried top to bottom, the reserved row last. -/
def cmdRow (v : Word) : CmdRow :=
  if v = 0 then .nop
  else if v = 1 then .enqueue
  else if v = 2 then .rxPop
  else if v = 3 then .txStageClr
  else if v = 4 then .linkReset
  else if v = 5 then .cntClr
  else .reserved v

/-- The opcode-table row that a receive row is. -/
def RxRow.toInstr : RxRow → Instr
  | .idleEsc => .rxIdleEsc
  | .idleStray b => .rxIdleStray b
  | .iescSof => .rxIescSof
  | .iescAck => .rxIescAck
  | .iescNak => .rxIescNak
  | .iescOther b => .rxIescOther b
  | .seqEsc => .rxSeqEsc
  | .seqData b => .rxSeqData b
  | .sescEsc => .rxSescEsc
  | .sescBad b => .rxSescBad b
  | .typeMk11 => .rxTypeMk11
  | .typeMk91 => .rxTypeMk91
  | .typeBad b => .rxTypeBad b
  | .infoEsc => .rxInfoEsc
  | .infoData b => .rxInfoData b
  | .ifescEsc => .rxIfescEsc
  | .ifescEof => .rxIfescEof
  | .ifescAck => .rxIfescAck
  | .ifescSof => .rxIfescSof
  | .ifescBad b => .rxIfescBad b

/-- The opcode-table row that a command row is. -/
def CmdRow.toInstr : CmdRow → Instr
  | .nop => .cmdNop
  | .enqueue => .cmdEnqueue
  | .rxPop => .cmdRxPop
  | .txStageClr => .cmdTxStageClr
  | .linkReset => .cmdLinkReset
  | .cntClr => .cmdCntClr
  | .reserved v => .cmdReserved v

/-- Whether an access is answered by BusError: its width is not 4 or its offset is not aligned (R83). -/
def busErrorAccess (off : Offset) (n : Nat) : Bool :=
  n != 4 || off.toNat % 4 != 0

/-- The read row of an aligned offset (R260). A misaligned offset, which the check of R83 takes first, selects the
bus error. -/
def readRow (off : Offset) : Instr :=
  if off = 0x00 then .rdCtrl
  else if off = 0x04 then .rdStatus
  else if off = 0x08 then .rdMaxTries
  else if off = 0x0C then .rdTimeout
  else if off = 0x10 then .rdTxSeq
  else if off = 0x14 then .rdHeadTries
  else if off = 0x18 then .rdHeadElapsed
  else if off = 0x1C then .rdLastAcc
  else if off = 0x20 then .rdTxData
  else if off = 0x24 then .rdCmd
  else if off = 0x28 then .rdTxStageLen
  else if off = 0x2C then .rdCap0
  else if off = 0x30 then .rdCap1
  else if off = 0x34 then .rdRxInfo
  else if off = 0x38 then .rdRxData
  else if off = 0x3C then .rdLastEvt
  else if off = 0x40 then .rdIrqPending
  else if off = 0x44 then .rdIrqEnable
  else if off = 0x48 then .rdCrcerrCrc
  else if off = 0x4C then .rdCrcerrHdr
  else if off = 0x50 then .rdDropInfo
  else if off = 0x54 then .rdRxAsmLen
  else if off = 0x80 then .rdCntRxOk
  else if off = 0x84 then .rdCntRxDup
  else if off = 0x88 then .rdCntRxConflict
  else if off = 0x8C then .rdCntRxCrc
  else if off = 0x90 then .rdCntRxBadmarker
  else if off = 0x94 then .rdCntRxBadesc
  else if off = 0x98 then .rdCntRxStray
  else if off = 0x9C then .rdCntRxAbort
  else if off = 0xA0 then .rdCntRxOverflow
  else if off = 0xA4 then .rdCntRxOverrun
  else if off = 0xA8 then .rdCntAckRx
  else if off = 0xAC then .rdCntNakRx
  else if off = 0xB0 then .rdCntTxFrames
  else if off = 0xB4 then .rdCntTxRetry
  else if off = 0xB8 then .rdCntTxDrop
  else if off = 0xBC then .rdCntTxAcked
  else if off.toNat % 4 ≠ 0 then .hostBusError (.read off 4)
  else if off &&& 0xF8 = 0x58 then .rdReserved058 off
  else if off &&& 0xE0 = 0x60 then .rdReserved060 off
  else .rdReserved0C0 off

/-- The write row of an aligned offset (R261). -/
def writeRow (off : Offset) (v : Word) : Instr :=
  if off = 0x00 then .wrCtrl v
  else if off = 0x08 then .wrMaxTries v
  else if off = 0x0C then .wrTimeout v
  else if off = 0x10 then .wrTxSeq v
  else if off = 0x20 then .wrTxData v
  else if off = 0x24 then .wrCmd v
  else if off = 0x40 then .wrIrqPending v
  else if off = 0x44 then .wrIrqEnable v
  else .wrIgnored off v

/-- The host decode: "checked before every host_read and host_write row" comes the bus error (R83, R109). -/
def decodeHost : HostAccess → Instr
  | .read off n => if busErrorAccess off n then .hostBusError (.read off n) else readRow off
  | .write off n v => if busErrorAccess off n then .hostBusError (.write off n v) else writeRow off v

/-- The operation an input event selects (R2, R30). -/
def decodeEvent : Event → Instr
  | .rxByte b => .evRxByte b
  | .tick => .evTick
  | .host a => decodeHost a
  | .reset => .evReset

/-- The one input of a decoder that selects no row. -/
inductive DecodeError where
  /-- A receive decode word whose state code is 7, "never held" (R34; DEDUCED, log entry 9). -/
  | rxStateCode7 (rxw : BitVec 11)
deriving DecidableEq, Repr

/-- The decoder, total on every code. -/
def decode (m : Markers) : Code → Except DecodeError Instr
  | .rx w =>
    match RxState.ofCode (w.extractLsb' 8 3) with
    | some st => .ok (rxRow m st (w.extractLsb' 0 8)).toInstr
    | none => .error (.rxStateCode7 w)
  | .cmd v => .ok (cmdRow v).toInstr
  | .event e => .ok (decodeEvent e)

/-! ## The encoder -/

/-- The receive decode word (R106): the state's code above the byte. -/
def rxWord (st : RxState) (b : Byte) : BitVec 11 := st.code ++ b

/-- The aligned 32-bit read of an offset. -/
def readCode (off : Offset) : Code := .event (.host (.read off 4))

/-- The aligned 32-bit write of an offset. -/
def writeCode (off : Offset) (v : Word) : Code := .event (.host (.write off 4 v))

/-- The code of an operation, from R112 (receive rows), R111 (commands), R46 (register offsets). -/
def encode : Instr → Code
  | .rxIdleEsc => .rx (rxWord .idle Wire.esc)
  | .rxIdleStray b => .rx (rxWord .idle b)
  | .rxIescSof => .rx (rxWord .idleEscape Wire.sof)
  | .rxIescAck => .rx (rxWord .idleEscape Wire.ackB)
  | .rxIescNak => .rx (rxWord .idleEscape Wire.nakB)
  | .rxIescOther b => .rx (rxWord .idleEscape b)
  | .rxSeqEsc => .rx (rxWord .seqNo Wire.esc)
  | .rxSeqData b => .rx (rxWord .seqNo b)
  | .rxSescEsc => .rx (rxWord .seqNoEscape Wire.esc)
  | .rxSescBad b => .rx (rxWord .seqNoEscape b)
  | .rxTypeMk11 => .rx (rxWord .type Wire.mkE2T)
  | .rxTypeMk91 => .rx (rxWord .type Wire.mkT2E)
  | .rxTypeBad b => .rx (rxWord .type b)
  | .rxInfoEsc => .rx (rxWord .infoFrame Wire.esc)
  | .rxInfoData b => .rx (rxWord .infoFrame b)
  | .rxIfescEsc => .rx (rxWord .infoFrameEscape Wire.esc)
  | .rxIfescEof => .rx (rxWord .infoFrameEscape Wire.eof)
  | .rxIfescAck => .rx (rxWord .infoFrameEscape Wire.ackB)
  | .rxIfescSof => .rx (rxWord .infoFrameEscape Wire.sof)
  | .rxIfescBad b => .rx (rxWord .infoFrameEscape b)
  | .cmdNop => .cmd 0
  | .cmdEnqueue => .cmd 1
  | .cmdRxPop => .cmd 2
  | .cmdTxStageClr => .cmd 3
  | .cmdLinkReset => .cmd 4
  | .cmdCntClr => .cmd 5
  | .cmdReserved v => .cmd v
  | .hostBusError a => .event (.host a)
  | .rdCtrl => readCode 0x00
  | .rdStatus => readCode 0x04
  | .rdMaxTries => readCode 0x08
  | .rdTimeout => readCode 0x0C
  | .rdTxSeq => readCode 0x10
  | .rdHeadTries => readCode 0x14
  | .rdHeadElapsed => readCode 0x18
  | .rdLastAcc => readCode 0x1C
  | .rdTxData => readCode 0x20
  | .rdCmd => readCode 0x24
  | .rdTxStageLen => readCode 0x28
  | .rdCap0 => readCode 0x2C
  | .rdCap1 => readCode 0x30
  | .rdRxInfo => readCode 0x34
  | .rdRxData => readCode 0x38
  | .rdLastEvt => readCode 0x3C
  | .rdIrqPending => readCode 0x40
  | .rdIrqEnable => readCode 0x44
  | .rdCrcerrCrc => readCode 0x48
  | .rdCrcerrHdr => readCode 0x4C
  | .rdDropInfo => readCode 0x50
  | .rdRxAsmLen => readCode 0x54
  | .rdCntRxOk => readCode 0x80
  | .rdCntRxDup => readCode 0x84
  | .rdCntRxConflict => readCode 0x88
  | .rdCntRxCrc => readCode 0x8C
  | .rdCntRxBadmarker => readCode 0x90
  | .rdCntRxBadesc => readCode 0x94
  | .rdCntRxStray => readCode 0x98
  | .rdCntRxAbort => readCode 0x9C
  | .rdCntRxOverflow => readCode 0xA0
  | .rdCntRxOverrun => readCode 0xA4
  | .rdCntAckRx => readCode 0xA8
  | .rdCntNakRx => readCode 0xAC
  | .rdCntTxFrames => readCode 0xB0
  | .rdCntTxRetry => readCode 0xB4
  | .rdCntTxDrop => readCode 0xB8
  | .rdCntTxAcked => readCode 0xBC
  | .rdReserved058 off => readCode off
  | .rdReserved060 off => readCode off
  | .rdReserved0C0 off => readCode off
  | .wrCtrl v => writeCode 0x00 v
  | .wrMaxTries v => writeCode 0x08 v
  | .wrTimeout v => writeCode 0x0C v
  | .wrTxSeq v => writeCode 0x10 v
  | .wrTxData v => writeCode 0x20 v
  | .wrCmd v => writeCode 0x24 v
  | .wrIrqPending v => writeCode 0x40 v
  | .wrIrqEnable v => writeCode 0x44 v
  | .wrIgnored off v => writeCode off v
  | .evRxByte b => .event (.rxByte b)
  | .evTick => .event .tick
  | .evReset => .event .reset

/-! ## The opcode table's words -/

/-- The code of a word of the opcode table, by the row's size: 8 bits are an offset (of a read), 16 bits hold the
receive decode word, 32 bits are a command. A row of 0 bits (the events and HOST.BUS_ERROR) has no word (log entry
8). -/
def tableCode (nbits w : Nat) : Option Code :=
  if nbits = 8 ∧ w < 0x100 then some (readCode (BitVec.ofNat 8 w))
  else if nbits = 16 ∧ w < 0x800 then some (.rx (BitVec.ofNat 11 w))
  else if nbits = 32 ∧ w < 0x100000000 then some (.cmd (BitVec.ofNat 32 w))
  else none

/-- The marker enables that make both markers known, as after Reset (R47). -/
def Markers.both : Markers := { acc11 := true, acc91 := true }

/-- The operation the decoder reads from a word of the opcode table, both markers known. -/
def decodeTableWord (nbits w : Nat) : Option Instr :=
  match tableCode nbits w with
  | none => none
  | some c => (decode Markers.both c).toOption

end Sys2Proof
end

