-- ==== Sys2Proof/Machine/Codec.lean ====
section
/-! DEFINITION. The frame codec (R130 to R135): pure functions of byte sequences. -/

namespace Sys2Proof.Machine

/-- One byte of CRC16: the five steps of R130, each on a 16-bit register. -/
def crcStep (r : BitVec 16) (b : Byte) : BitVec 16 :=
  let r1 := (r >>> 8) ||| (r <<< 8)
  let r2 := r1 ^^^ b.setWidth 16
  let r3 := r2 ^^^ ((r2 &&& 0x00FF) >>> 4)
  let r4 := r3 ^^^ ((r3 <<< 8) <<< 4)
  r4 ^^^ (((r4 &&& 0x00FF) <<< 4) <<< 1)

/-- `CRC16(L)` (R130): the register starts at 0 and takes the bytes in order. -/
def crc16 (bs : List Byte) : BitVec 16 := bs.foldl crcStep 0

/-- The two CRC bytes in wire order, high byte first (R131). -/
def crcBytes (bs : List Byte) : List Byte :=
  [(crc16 bs).extractLsb' 8 8, (crc16 bs).extractLsb' 0 8]

/-- `Terminate(p)` (R132). -/
def terminate (p : List Byte) : List Byte :=
  if p.getLast? = some Wire.lf then p else p ++ [Wire.lf]

/-- `Stuff(X)` (R133). -/
def stuff : List Byte → List Byte
  | [] => []
  | b :: bs => if b = Wire.esc then Wire.esc :: Wire.esc :: stuff bs else b :: stuff bs

/-- The logical bytes of a frame with their CRC (R101, R131). -/
def logicalFrame (seq marker : Byte) (p : List Byte) : List Byte :=
  let l := seq :: marker :: p
  l ++ crcBytes l

/-- `Wrap(seq, marker, p)` (R134). -/
def wrap (seq marker : Byte) (p : List Byte) : List Byte :=
  [Wire.esc, Wire.sof] ++ stuff (logicalFrame seq marker p) ++ [Wire.esc, Wire.eof]

/-- `Encode(seq, marker, p)` (R135). -/
def encodeFrame (seq marker : Byte) (p : List Byte) : List Byte :=
  wrap seq marker (terminate p)

/-- The CRC a received buffer of at least 2 bytes carries: its last two bytes, high byte first (R82, R104, R200). -/
def crcField (a : List Byte) : BitVec 16 :=
  a.getD (a.length - 2) 0 ++ a.getD (a.length - 1) 0

/-- The bytes a received buffer's CRC is computed over: all but the last two (R137, R200). -/
def crcCovered (a : List Byte) : List Byte := a.take (a.length - 2)

/-- The payload of a received buffer, `a[2 .. n-2)` (R101, R203). -/
def payloadOf (a : List Byte) : List Byte := (crcCovered a).drop 2

/-- The ACK sequence (R100). -/
def ackSeq : List Byte := [Wire.esc, Wire.ackB]

/-- The NAK sequence (R100). -/
def nakSeq : List Byte := [Wire.esc, Wire.nakB]

end Sys2Proof.Machine
end

