-- ==== Sys2Proof/Machine/State.lean ====
section
/-! DEFINITION. The state of the block (R31), with the model's own fields beside it, and the state after Reset. -/

namespace Sys2Proof.Machine

/-- Why the machine stops with a fault. -/
inductive Fault where
  /-- RX.IFESC.EOF (R200) on an assembly buffer of fewer than 2 bytes: the rule's operand condition `n >= 2` fails,
  so the bytes a[0] and a[1] it names do not exist. No run reaches such a state (R35). Safe (log entry 7). -/
  | asmTooShort
deriving DecidableEq, Repr

/-- Why an operation has no meaning. -/
inductive Refusal where
  /-- Raised by exec's arm of an operation that has no meaning yet. No arm raises it now. Safe. -/
  | notModelled (mnemonic : String)
deriving DecidableEq, Repr

/-- The fields of CTRL (R47). -/
structure Ctrl where
  en : Bool
  txdir : Bool
  acc11 : Bool
  acc91 : Bool
deriving DecidableEq, Repr

/-- The Last Accepted Inbound Frame (R36): the whole buffer, CRC bytes included, as its sequence byte, its marker byte
and the rest. -/
structure LastFrame where
  seq : Byte
  marker : Byte
  body : List Byte
deriving DecidableEq, Repr

/-- An outbound frame record (R37); `wire` is the complete encoded frame. -/
structure TxFrame where
  seq : Byte
  marker : Byte
  wire : List Byte
deriving DecidableEq, Repr

/-- A delivered message (R42). -/
structure RxMsg where
  seq : Byte
  marker : Byte
  payload : List Byte
deriving DecidableEq, Repr

/-- The record of the last CRC error (R45, R61). -/
structure CrcErr where
  recv : BitVec 16
  comp : BitVec 16
  seq : Byte
  type : Byte
  len : BitVec 16
deriving DecidableEq, Repr

/-- The record of the last drop (R45, R62); cause 0 is a timeout, 1 a NAK. -/
structure DropInfo where
  seq : Byte
  marker : Byte
  cause : BitVec 1
deriving DecidableEq, Repr

/-- The names of the sixteen counters, in the order of R58. -/
inductive CounterId where
  | rxOk
  | rxDup
  | rxConflict
  | rxCrc
  | rxBadmarker
  | rxBadesc
  | rxStray
  | rxAbort
  | rxOverflow
  | rxOverrun
  | ackRx
  | nakRx
  | txFrames
  | txRetry
  | txDrop
  | txAcked
deriving DecidableEq, Repr

/-- The sixteen 32-bit counters (R58). -/
structure Counters where
  rxOk : Word
  rxDup : Word
  rxConflict : Word
  rxCrc : Word
  rxBadmarker : Word
  rxBadesc : Word
  rxStray : Word
  rxAbort : Word
  rxOverflow : Word
  rxOverrun : Word
  ackRx : Word
  nakRx : Word
  txFrames : Word
  txRetry : Word
  txDrop : Word
  txAcked : Word
deriving DecidableEq, Repr

/-- All counters 0: their reset value, and what CNT_CLR leaves (R58, R277). -/
def Counters.zero : Counters where
  rxOk := 0
  rxDup := 0
  rxConflict := 0
  rxCrc := 0
  rxBadmarker := 0
  rxBadesc := 0
  rxStray := 0
  rxAbort := 0
  rxOverflow := 0
  rxOverrun := 0
  ackRx := 0
  nakRx := 0
  txFrames := 0
  txRetry := 0
  txDrop := 0
  txAcked := 0

/-- What the host receives on its bus: the value of a read (R260), or the error response of an undefined access
(R83). -/
inductive BusAnswer where
  | data (v : Word)
  | busError (off : Offset) (n : Nat)
deriving DecidableEq, Repr

/-- The state. The fields up to `dropInfo` are the record `s` of R31; the last four are the model's own. -/
structure State where
  /-- State of the receive machine (R33). -/
  rxState : RxState
  /-- Receive assembly buffer: the logical bytes of the frame being received (R35). -/
  asm : List Byte
  /-- Last Accepted Inbound Frame (R36). -/
  last : Option LastFrame
  /-- Outbound queue; its head is the in-flight frame (R37). -/
  txq : List TxFrame
  /-- Retry counter of the head frame (R38). -/
  tries : BitVec 9
  /-- Ticks since the head frame was last sent (R38). -/
  elapsed : BitVec 17
  /-- Sequence number of the next enqueued frame (R40). -/
  txSeq : Byte
  /-- TX staging buffer (R41). -/
  stage : List Byte
  /-- RX delivery FIFO (R42). -/
  rxq : List RxMsg
  /-- Read index into the head message's payload (R42). -/
  rdPtr : BitVec 16
  /-- CTRL (R43, R47). -/
  ctrl : Ctrl
  /-- MAX_TRIES (R43, R49). -/
  maxTries : BitVec 8
  /-- TIMEOUT, in ticks (R43, R50). -/
  timeout : BitVec 16
  /-- Pending interrupt bits (R44, R310). -/
  irqPending : BitVec 9
  /-- Enabled interrupt bits (R44). -/
  irqEnable : BitVec 9
  /-- The counters (R45, R58). -/
  cnt : Counters
  /-- Code of the most recent anomaly event (R45, R300). -/
  lastEvt : BitVec 4
  /-- Record of the last CRC error (R45). -/
  crcErr : CrcErr
  /-- Record of the last drop (R45). -/
  dropInfo : DropInfo
  /-- The parameters of R8: "parameters, not state"; no step changes them (log entry 1). -/
  params : Params
  /-- The output byte stream: "an output of the block, not state of the block" (R31, R39; log entry 4). -/
  txOut : List Byte
  /-- The answers given to the host, oldest first: an output, too (R83, R260; log entry 5). -/
  busOut : List BusAnswer
  /-- The events still to come, in the total order of R88 (log entry 3). -/
  input : List Event
deriving DecidableEq, Repr

/-- The state after Reset under given parameters (R340), with nothing sent, nothing answered and no event waiting. -/
def State.resetWith (p : Params) : State where
  rxState := .idle
  asm := []
  last := none
  txq := []
  tries := 0
  elapsed := 0
  txSeq := 1
  stage := []
  rxq := []
  rdPtr := 0
  ctrl := { en := false, txdir := false, acc11 := true, acc91 := true }
  maxTries := 3
  timeout := p.timeoutReset
  irqPending := 0
  irqEnable := 0
  cnt := Counters.zero
  lastEvt := 0
  crcErr := { recv := 0, comp := 0, seq := 0, type := 0, len := 0 }
  dropInfo := { seq := 0, marker := 0, cause := 0 }
  params := p
  txOut := []
  busOut := []
  input := []

/-- The machine right after reset (R340). Its parameters are a DESIGN CHOICE (log entries 1, 2). -/
def State.reset : State := State.resetWith Config.params

end Sys2Proof.Machine
end

