-- ==== Sys2Proof/Machine/Ops.lean ====
section
/-! DEFINITION. The primitives of R11 and the shared operations of the receive side (R160, R162, R279). The block has
no data memory (R80) and no trap (R315); what it does on an anomaly is `State.anomaly`. -/

namespace Sys2Proof.Machine

/-- `Emit(bs)`: append bs to the output stream as one unit (R11, R39). -/
def State.emit (s : State) (bs : List Byte) : State := { s with txOut := s.txOut ++ bs }

/-- Give the host a bus answer (R83, R260). -/
def State.answer (s : State) (a : BusAnswer) : State := { s with busOut := s.busOut ++ [a] }

/-- `sat32(v + 1)` (R9, R58). -/
def satSucc (v : Word) : Word := if v = 0xFFFFFFFF then v else v + 1

/-- The value of a counter. -/
def Counters.get (c : Counters) : CounterId → Word
  | .rxOk => c.rxOk
  | .rxDup => c.rxDup
  | .rxConflict => c.rxConflict
  | .rxCrc => c.rxCrc
  | .rxBadmarker => c.rxBadmarker
  | .rxBadesc => c.rxBadesc
  | .rxStray => c.rxStray
  | .rxAbort => c.rxAbort
  | .rxOverflow => c.rxOverflow
  | .rxOverrun => c.rxOverrun
  | .ackRx => c.ackRx
  | .nakRx => c.nakRx
  | .txFrames => c.txFrames
  | .txRetry => c.txRetry
  | .txDrop => c.txDrop
  | .txAcked => c.txAcked

/-- One counter counted up, saturating. -/
def Counters.bump (c : Counters) : CounterId → Counters
  | .rxOk => { c with rxOk := satSucc c.rxOk }
  | .rxDup => { c with rxDup := satSucc c.rxDup }
  | .rxConflict => { c with rxConflict := satSucc c.rxConflict }
  | .rxCrc => { c with rxCrc := satSucc c.rxCrc }
  | .rxBadmarker => { c with rxBadmarker := satSucc c.rxBadmarker }
  | .rxBadesc => { c with rxBadesc := satSucc c.rxBadesc }
  | .rxStray => { c with rxStray := satSucc c.rxStray }
  | .rxAbort => { c with rxAbort := satSucc c.rxAbort }
  | .rxOverflow => { c with rxOverflow := satSucc c.rxOverflow }
  | .rxOverrun => { c with rxOverrun := satSucc c.rxOverrun }
  | .ackRx => { c with ackRx := satSucc c.ackRx }
  | .nakRx => { c with nakRx := satSucc c.nakRx }
  | .txFrames => { c with txFrames := satSucc c.txFrames }
  | .txRetry => { c with txRetry := satSucc c.txRetry }
  | .txDrop => { c with txDrop := satSucc c.txDrop }
  | .txAcked => { c with txAcked := satSucc c.txAcked }

/-- `Count(C)` (R11, R58). -/
def State.count (s : State) (c : CounterId) : State := { s with cnt := s.cnt.bump c }

/-- `Note(code)` (R11, R300). -/
def State.note (s : State) (code : BitVec 4) : State := { s with lastEvt := code }

/-- `Irq(b)`: set pending bit b (R11, R310). -/
def State.irq (s : State) (b : Fin 9) : State :=
  { s with irqPending := s.irqPending ||| (1#9 <<< b.val) }

/-! ### Interrupt bits (R310) and event codes (R300) -/

/-- RX_MSG, bit 0. -/
abbrev Irq.rxMsg : Fin 9 := 0
/-- TX_ACKED, bit 1. -/
abbrev Irq.txAcked : Fin 9 := 1
/-- TX_DROP, bit 2. -/
abbrev Irq.txDrop : Fin 9 := 2
/-- RX_CRC, bit 3. -/
abbrev Irq.rxCrc : Fin 9 := 3
/-- RX_DUP, bit 4. -/
abbrev Irq.rxDup : Fin 9 := 4
/-- RX_CONFLICT, bit 5. -/
abbrev Irq.rxConflict : Fin 9 := 5
/-- RX_FRAMING, bit 6. -/
abbrev Irq.rxFraming : Fin 9 := 6
/-- RX_OVERRUN, bit 7. -/
abbrev Irq.rxOverrun : Fin 9 := 7
/-- CMD_ERR, bit 8. -/
abbrev Irq.cmdErr : Fin 9 := 8

/-- STRAY_BYTE. -/
abbrev Evt.strayByte : BitVec 4 := 1#4
/-- BAD_ESCAPE. -/
abbrev Evt.badEscape : BitVec 4 := 2#4
/-- BAD_MARKER. -/
abbrev Evt.badMarker : BitVec 4 := 3#4
/-- FRAME_ABORT. -/
abbrev Evt.frameAbort : BitVec 4 := 4#4
/-- CRC_ERROR. -/
abbrev Evt.crcError : BitVec 4 := 5#4
/-- DUP_REPLAY. -/
abbrev Evt.dupReplay : BitVec 4 := 6#4
/-- DUP_CONFLICT. -/
abbrev Evt.dupConflict : BitVec 4 := 7#4
/-- RX_OVERFLOW. -/
abbrev Evt.rxOverflow : BitVec 4 := 8#4
/-- RX_OVERRUN. -/
abbrev Evt.rxOverrun : BitVec 4 := 9#4
/-- TX_DROP_TIMEOUT; TX_DROP_NAK is one more (R225: `Note(10 + cause)`). -/
abbrev Evt.txDropTimeout : BitVec 4 := 10#4
/-- CMD_REJECT. -/
abbrev Evt.cmdReject : BitVec 4 := 12#4

/-- What the block does on an anomaly that has an interrupt bit: count it, note its code, set the bit (R300, R310).
This stands where another machine takes an exception: nothing is saved and control goes nowhere (R315, R302). -/
def State.anomaly (s : State) (c : CounterId) (code : BitVec 4) (b : Fin 9) : State :=
  ((s.count c).note code).irq b

/-- `Reject()`: refuse a host request; nothing else changes and nothing is counted (R279). -/
def State.reject (s : State) : State := (s.note Evt.cmdReject).irq Irq.cmdErr

/-- `goto S`: entering Idle clears `asm` (R11, R160). -/
def State.goto (s : State) (st : RxState) : State :=
  { s with rxState := st, asm := if st = .idle then [] else s.asm }

/-- `Append(b, S)` with its overflow check (R162). -/
def State.append (s : State) (b : Byte) (st : RxState) : State :=
  if s.asm.length = s.params.rxbufMax then
    ((s.emit nakSeq).anomaly .rxOverflow Evt.rxOverflow Irq.rxFraming).goto .idle
  else
    { s with asm := s.asm ++ [b] }.goto st

end Sys2Proof.Machine
end

