-- ==== Sys2Proof/Machine/Guard.lean ====
section
/-! DEFINITION. The end-of-frame check and the Duplicate/Ordering Guard (R200 to R207). -/

namespace Sys2Proof.Machine

/-- The whole buffer of the Last Accepted Inbound Frame (R36, D14). -/
def LastFrame.bytes (l : LastFrame) : List Byte := l.seq :: l.marker :: l.body

/-- `IntegrityFail` (R201), on the buffer a0 :: a1 :: body. -/
def State.integrityFail (s : State) (a0 a1 : Byte) (body : List Byte) : State :=
  let a := a0 :: a1 :: body
  let err : CrcErr :=
    { recv := crcField a, comp := crc16 (crcCovered a), seq := a0, type := a1, len := BitVec.ofNat 16 a.length }
  let s := s.emit nakSeq
  { s with crcErr := err }.anomaly .rxCrc Evt.crcError Irq.rxCrc

/-- `Overrun()` (R204). -/
def State.overrun (s : State) : State :=
  (s.emit nakSeq).anomaly .rxOverrun Evt.rxOverrun Irq.rxOverrun

/-- `AcceptNew` (R203): ACK, remember the frame, deliver its payload. -/
def State.acceptNew (s : State) (a0 a1 : Byte) (body : List Byte) : State :=
  if s.rxq.length = s.params.rxqDepth then s.overrun
  else
    let msg : RxMsg := { seq := a0, marker := a1, payload := payloadOf (a0 :: a1 :: body) }
    let s := s.emit ackSeq
    let s := { s with last := some { seq := a0, marker := a1, body := body }, rxq := s.rxq ++ [msg] }
    (s.count .rxOk).irq Irq.rxMsg

/-- `Replay()` (R205): ACK again, deliver nothing. -/
def State.replay (s : State) : State :=
  (s.emit ackSeq).anomaly .rxDup Evt.dupReplay Irq.rxDup

/-- `Conflict()` (R206). -/
def State.conflict (s : State) : State :=
  (s.emit nakSeq).anomaly .rxConflict Evt.dupConflict Irq.rxConflict

/-- The comparison with the Last Accepted Frame, the CRC being right (R200). -/
def State.guardFrame (s : State) (a0 a1 : Byte) (body : List Byte) : State :=
  match s.last with
  | none => s.acceptNew a0 a1 body
  | some l =>
    if l.seq ≠ a0 then s.acceptNew a0 a1 body
    else if l.bytes = a0 :: a1 :: body then s.replay
    else s.conflict

/-- The classification of a completed frame (R200, R202): fewer than 4 bytes or a CRC mismatch fails first. -/
def State.classify (s : State) (a0 a1 : Byte) (body : List Byte) : State :=
  let a := a0 :: a1 :: body
  if a.length < 4 ∨ crc16 (crcCovered a) ≠ crcField a then s.integrityFail a0 a1 body
  else s.guardFrame a0 a1 body

/-- `EndOfFrame()` (R200, R207), whose operand condition is a buffer of at least 2 bytes (log entry 7). -/
def State.endOfFrame (s : State) : Host.Outcome State Fault Refusal :=
  match s.asm with
  | a0 :: a1 :: body => .next ((s.classify a0 a1 body).goto .idle)
  | _ => .fault .asmTooShort

end Sys2Proof.Machine
end

