-- ==== Sys2Proof/Machine/Queue.lean ====
section
/-! DEFINITION. The send queue and its retry scheduler (R220 to R228). Each operation that acts on the head frame does
nothing on an empty queue, where no rule calls it (log entry 11). -/

namespace Sys2Proof.Machine

/-- `StartHead()`: zero the head's counters and transmit the new head, if any (R221). -/
def State.startHead (s : State) : State :=
  let s := { s with tries := 0, elapsed := 0 }
  match s.txq with
  | [] => s
  | f :: _ => (s.emit f.wire).count .txFrames

/-- `QEnqueue(f)`: append; transmit at once when the queue was empty (R220). -/
def State.qEnqueue (s : State) (f : TxFrame) : State :=
  if s.txq = [] then { s with txq := s.txq ++ [f] }.startHead
  else { s with txq := s.txq ++ [f] }

/-- `tries > maxTries`, the strict comparison of R223 and R228 (C1). -/
def State.triesExhausted (s : State) : Bool := s.maxTries.toNat < s.tries.toNat

/-- `Retransmit()`: the head's same bytes again (R224). -/
def State.retransmit (s : State) : State :=
  match s.txq with
  | [] => s
  | f :: _ =>
    let s := s.emit f.wire
    { s with tries := s.tries + 1, elapsed := 0 }.count .txRetry

/-- `Drop(cause)`: give up on the head and start the next frame (R225). -/
def State.drop (s : State) (cause : BitVec 1) : State :=
  match s.txq with
  | [] => s
  | f :: rest =>
    let s := { s with dropInfo := { seq := f.seq, marker := f.marker, cause := cause }, txq := rest }
    (s.anomaly .txDrop (Evt.txDropTimeout + cause.setWidth 4) Irq.txDrop).startHead

/-- `ResendAttempt()` (R223). -/
def State.resendAttempt (s : State) : State :=
  if s.triesExhausted then s.drop 0 else s.retransmit

/-- `OnAck()`: an ACK always answers the head (R226); with an empty queue it is only counted (R227). -/
def State.onAck (s : State) : State :=
  let s := s.count .ackRx
  match s.txq with
  | [] => s
  | _ :: rest =>
    let s := { s with txq := rest }
    ((s.count .txAcked).irq Irq.txAcked).startHead

/-- `OnNak()`: counted; it drops the head only when the tries are exhausted, and never resends (R228). -/
def State.onNak (s : State) : State :=
  let s := s.count .nakRx
  if s.txq ≠ [] ∧ s.triesExhausted then s.drop 1 else s

/-- `Tick()` (R222): no effect when disabled or with an empty queue; a resend attempt when the elapsed ticks exceed the
timeout. -/
def State.tick (s : State) : State :=
  if s.ctrl.en = false ∨ s.txq = [] then s
  else
    let s := { s with elapsed := s.elapsed + 1 }
    if s.timeout.toNat < s.elapsed.toNat then s.resendAttempt else s

end Sys2Proof.Machine
end

