-- ==== Sys2Proof/Machine/Receive.lean ====
section
/-! DEFINITION. The meanings of the receive rows (R163 to R181). A row's meaning is its rule's pseudocode; the decode
selects the row by state and byte (R106), and the meaning does not test that again (log entry 6). -/

namespace Sys2Proof.Machine

/-! ### Idle -/

/-- RX.IDLE.ESC (R163). -/
def execRxIdleEsc (s : State) : Host.Outcome State Fault Refusal :=
  .next (s.goto .idleEscape)

/-- RX.IDLE.STRAY (R164): counted and noted, no interrupt (D37). -/
def execRxIdleStray (_b : Byte) (s : State) : Host.Outcome State Fault Refusal :=
  .next (((s.count .rxStray).note Evt.strayByte).goto .idle)

/-! ### IdleEscape -/

/-- RX.IESC.SOF (R165). -/
def execRxIescSof (s : State) : Host.Outcome State Fault Refusal :=
  .next ({ s with asm := [] }.goto .seqNo)

/-- RX.IESC.ACK (R166). -/
def execRxIescAck (s : State) : Host.Outcome State Fault Refusal :=
  .next (s.onAck.goto .idle)

/-- RX.IESC.NAK (R167). -/
def execRxIescNak (s : State) : Host.Outcome State Fault Refusal :=
  .next (s.onNak.goto .idle)

/-- RX.IESC.OTHER (R168): neither counted nor noted (D37). -/
def execRxIescOther (_b : Byte) (s : State) : Host.Outcome State Fault Refusal :=
  .next (s.goto .idle)

/-! ### SeqNo and SeqNoEscape -/

/-- RX.SEQ.ESC (R169). -/
def execRxSeqEsc (s : State) : Host.Outcome State Fault Refusal :=
  .next (s.goto .seqNoEscape)

/-- RX.SEQ.DATA (R170). -/
def execRxSeqData (b : Byte) (s : State) : Host.Outcome State Fault Refusal :=
  .next (s.append b .type)

/-- RX.SESC.ESC (R171): the stuffed sequence number 0x10. -/
def execRxSescEsc (s : State) : Host.Outcome State Fault Refusal :=
  .next (s.append Wire.esc .type)

/-- RX.SESC.BAD (R172): the pair is discarded, no NAK (C2). -/
def execRxSescBad (_b : Byte) (s : State) : Host.Outcome State Fault Refusal :=
  .next ((s.anomaly .rxBadesc Evt.badEscape Irq.rxFraming).goto .seqNo)

/-! ### Type -/

/-- RX.TYPE.MK11 (R173). -/
def execRxTypeMk11 (s : State) : Host.Outcome State Fault Refusal :=
  .next (s.append Wire.mkE2T .infoFrame)

/-- RX.TYPE.MK91 (R173). -/
def execRxTypeMk91 (s : State) : Host.Outcome State Fault Refusal :=
  .next (s.append Wire.mkT2E .infoFrame)

/-- RX.TYPE.BAD (R174): NAK and Idle. -/
def execRxTypeBad (_b : Byte) (s : State) : Host.Outcome State Fault Refusal :=
  .next (((s.emit nakSeq).anomaly .rxBadmarker Evt.badMarker Irq.rxFraming).goto .idle)

/-! ### InfoFrame and InfoFrameEscape -/

/-- RX.INFO.ESC (R175). -/
def execRxInfoEsc (s : State) : Host.Outcome State Fault Refusal :=
  .next (s.goto .infoFrameEscape)

/-- RX.INFO.DATA (R176). -/
def execRxInfoData (b : Byte) (s : State) : Host.Outcome State Fault Refusal :=
  .next (s.append b .infoFrame)

/-- RX.IFESC.ESC (R177): a stuffed payload or CRC byte 0x10. -/
def execRxIfescEsc (s : State) : Host.Outcome State Fault Refusal :=
  .next (s.append Wire.esc .infoFrame)

/-- RX.IFESC.EOF (R178): the end-of-frame check, which ends in Idle. -/
def execRxIfescEof (s : State) : Host.Outcome State Fault Refusal :=
  s.endOfFrame

/-- RX.IFESC.ACK (R179): an ACK inside a frame is honoured, and the frame goes on (D11). -/
def execRxIfescAck (s : State) : Host.Outcome State Fault Refusal :=
  .next (s.onAck.goto .infoFrame)

/-- RX.IFESC.SOF (R180): the partial frame is abandoned, assembly restarts. -/
def execRxIfescSof (s : State) : Host.Outcome State Fault Refusal :=
  let s := s.anomaly .rxAbort Evt.frameAbort Irq.rxFraming
  .next ({ s with asm := [] }.goto .seqNo)

/-- RX.IFESC.BAD (R181): the pair is discarded, the frame goes on, no NAK (C2). -/
def execRxIfescBad (_b : Byte) (s : State) : Host.Outcome State Fault Refusal :=
  .next ((s.anomaly .rxBadesc Evt.badEscape Irq.rxFraming).goto .infoFrame)

end Sys2Proof.Machine
end

