-- ==== Sys2Proof/Machine/Events.lean ====
section
/-! DEFINITION. The meanings of the event rows (R161, R222, R340). -/

namespace Sys2Proof.Machine

/-- The marker enables the receive decode reads (R106). -/
def State.markers (s : State) : Markers := { acc11 := s.ctrl.acc11, acc91 := s.ctrl.acc91 }

/-- The meaning of a receive row. -/
def runRxRow (r : RxRow) (s : State) : Host.Outcome State Fault Refusal :=
  match r with
  | .idleEsc => execRxIdleEsc s
  | .idleStray b => execRxIdleStray b s
  | .iescSof => execRxIescSof s
  | .iescAck => execRxIescAck s
  | .iescNak => execRxIescNak s
  | .iescOther b => execRxIescOther b s
  | .seqEsc => execRxSeqEsc s
  | .seqData b => execRxSeqData b s
  | .sescEsc => execRxSescEsc s
  | .sescBad b => execRxSescBad b s
  | .typeMk11 => execRxTypeMk11 s
  | .typeMk91 => execRxTypeMk91 s
  | .typeBad b => execRxTypeBad b s
  | .infoEsc => execRxInfoEsc s
  | .infoData b => execRxInfoData b s
  | .ifescEsc => execRxIfescEsc s
  | .ifescEof => execRxIfescEof s
  | .ifescAck => execRxIfescAck s
  | .ifescSof => execRxIfescSof s
  | .ifescBad b => execRxIfescBad b s

/-- EV.RX_BYTE (R161): no effect when EN = 0 (D27); otherwise the receive row that state and byte select. -/
def execEvRxByte (b : Byte) (s : State) : Host.Outcome State Fault Refusal :=
  if s.ctrl.en then runRxRow (rxRow s.markers s.rxState b) s else .next s

/-- EV.TICK (R222). -/
def execEvTick (s : State) : Host.Outcome State Fault Refusal :=
  .next s.tick

/-- EV.RESET (R340): every element of R31 to its reset value. The parameters stay, what was sent or answered stays
(R341), and so do the events still to come (log entry 12). -/
def execEvReset (s : State) : Host.Outcome State Fault Refusal :=
  .next
    { s with
      rxState := .idle
      asm := []
      last := none
      txq := []
      tries := 0
      elapsed := 0
      txSeq := 1
      stage := []
      rxq := []
      rdPtr := 0
      ctrl := { en := false, txdir := false, acc11 := true, acc91 := true }
      maxTries := 3
      timeout := s.params.timeoutReset
      irqPending := 0
      irqEnable := 0
      cnt := Counters.zero
      lastEvt := 0
      crcErr := { recv := 0, comp := 0, seq := 0, type := 0, len := 0 }
      dropInfo := { seq := 0, marker := 0, cause := 0 } }

end Sys2Proof.Machine
end

