-- ==== Sys2Proof/Machine/Flags.lean ====
section
/-! DEFINITION. The block's only flags (R64): the STATUS bits, which are views (R48), and the interrupt output
(R311). -/

namespace Sys2Proof.Machine

/-- STATUS.LAST_VALID (R48). -/
def State.lastValid (s : State) : Bool := s.last.isSome

/-- STATUS.TXQ_NE: a frame is in flight (R48). -/
def State.txqNonempty (s : State) : Bool := 0 < s.txq.length

/-- STATUS.RXQ_NE (R48). -/
def State.rxqNonempty (s : State) : Bool := 0 < s.rxq.length

/-- STATUS.TXQ_FULL (R48); ENQUEUE tests the same condition (R273). -/
def State.txqFull (s : State) : Bool := s.txq.length == s.params.txqDepth

/-- STATUS.RXQ_FULL (R48). -/
def State.rxqFull (s : State) : Bool := s.rxq.length == s.params.rxqDepth

/-- STATUS.STAGE_FULL (R48); a TX_DATA write tests the same condition (R270). -/
def State.stageFull (s : State) : Bool := s.stage.length == s.params.txPayloadMax

/-- The interrupt output: a level, not state (R44, R311). -/
def State.irqOut (s : State) : Bool := s.irqPending &&& s.irqEnable != 0

/-- STATUS (R48), its fields from bit 31 down to bit 0. -/
def State.statusWord (s : State) : Word :=
  0#7 ++ BitVec.ofBool s.stageFull ++ BitVec.ofNat 8 s.rxq.length ++ BitVec.ofNat 8 s.txq.length ++
    BitVec.ofBool s.rxqFull ++ BitVec.ofBool s.txqFull ++ BitVec.ofBool s.rxqNonempty ++
    BitVec.ofBool s.txqNonempty ++ BitVec.ofBool s.lastValid ++ s.rxState.code

end Sys2Proof.Machine
end

