-- ==== Sys2Proof/Machine/Operands.lean ====
section
/-! DEFINITION. The operand forms of the host interface: what a register of the window reads as (R46 to R62) and the
fields a written value has (R261). -/

namespace Sys2Proof.Machine

/-! ### Register views -/

/-- CTRL (R47, R260): ACC91, ACC11, TXDIR, EN in bits 3 to 0. -/
def State.ctrlWord (s : State) : Word :=
  0#28 ++ BitVec.ofBool s.ctrl.acc91 ++ BitVec.ofBool s.ctrl.acc11 ++ BitVec.ofBool s.ctrl.txdir ++
    BitVec.ofBool s.ctrl.en

/-- MAX_TRIES (R49). -/
def State.maxTriesWord (s : State) : Word := s.maxTries.setWidth 32

/-- TIMEOUT (R50). -/
def State.timeoutWord (s : State) : Word := s.timeout.setWidth 32

/-- TX_SEQ (R51). -/
def State.txSeqWord (s : State) : Word := s.txSeq.setWidth 32

/-- HEAD_TRIES (R52). -/
def State.headTriesWord (s : State) : Word := s.tries.setWidth 32

/-- HEAD_ELAPSED (R53). -/
def State.headElapsedWord (s : State) : Word := s.elapsed.setWidth 32

/-- LAST_ACC (R54): length, marker, sequence number, or 0. -/
def State.lastAccWord (s : State) : Word :=
  match s.last with
  | none => 0
  | some l => BitVec.ofNat 16 (l.body.length + 2) ++ l.marker ++ l.seq

/-- TX_STAGE_LEN (R56). -/
def State.stageLenWord (s : State) : Word := 0#16 ++ BitVec.ofNat 16 s.stage.length

/-- CAP0 (R56): TX_PAYLOAD_MAX above RXBUF_MAX. -/
def State.cap0Word (s : State) : Word :=
  BitVec.ofNat 16 s.params.txPayloadMax ++ BitVec.ofNat 16 s.params.rxbufMax

/-- CAP1 (R56): RXQ_DEPTH above TXQ_DEPTH. -/
def State.cap1Word (s : State) : Word :=
  0#16 ++ BitVec.ofNat 8 s.params.rxqDepth ++ BitVec.ofNat 8 s.params.txqDepth

/-- RX_INFO (R57, R267): the head message's payload length, marker and sequence number, or 0. -/
def State.rxInfoWord (s : State) : Word :=
  match s.rxq with
  | [] => 0
  | m :: _ => BitVec.ofNat 16 m.payload.length ++ m.marker ++ m.seq

/-- The payload byte an RX_DATA read returns, if one is left (R266). -/
def State.rxDataByte (s : State) : Option Byte :=
  match s.rxq with
  | [] => none
  | m :: _ => m.payload[s.rdPtr.toNat]?

/-- LAST_EVT (R59). -/
def State.lastEvtWord (s : State) : Word := s.lastEvt.setWidth 32

/-- IRQ_PENDING (R60). -/
def State.irqPendingWord (s : State) : Word := s.irqPending.setWidth 32

/-- IRQ_ENABLE (R60). -/
def State.irqEnableWord (s : State) : Word := s.irqEnable.setWidth 32

/-- CRCERR_CRC (R61): received above computed. -/
def State.crcErrCrcWord (s : State) : Word := s.crcErr.recv ++ s.crcErr.comp

/-- CRCERR_HDR (R61): length, type, sequence number. -/
def State.crcErrHdrWord (s : State) : Word := s.crcErr.len ++ s.crcErr.type ++ s.crcErr.seq

/-- DROP_INFO (R62): cause, marker, sequence number. -/
def State.dropInfoWord (s : State) : Word :=
  0#15 ++ s.dropInfo.cause ++ s.dropInfo.marker ++ s.dropInfo.seq

/-- RX_ASM_LEN (R57). -/
def State.asmLenWord (s : State) : Word := 0#16 ++ BitVec.ofNat 16 s.asm.length

/-! ### Fields of a written value -/

/-- The CTRL fields of a written value; bits 31 to 4 are ignored (R47, R262). -/
def ctrlOf (v : Word) : Ctrl where
  en := v.getLsbD 0
  txdir := v.getLsbD 1
  acc11 := v.getLsbD 2
  acc91 := v.getLsbD 3

/-- `v[7:0]` (R49, R51, R270). -/
def low8 (v : Word) : BitVec 8 := v.extractLsb' 0 8

/-- `v[8:0]` (R60). -/
def low9 (v : Word) : BitVec 9 := v.extractLsb' 0 9

/-- `v[15:0]` (R50). -/
def low16 (v : Word) : BitVec 16 := v.extractLsb' 0 16

end Sys2Proof.Machine
end

