-- ==== Sys2Proof/Machine/HostRead.lean ====
section
/-! DEFINITION. The meanings of the read rows (R260, R266, R63) and of an undefined access (R83). A read answers the
host with one word and, but for RX_DATA, changes nothing else. -/

namespace Sys2Proof.Machine

/-- HOST.BUS_ERROR (R83): the error response, and no state of the block changes. -/
def execHostBusError (a : HostAccess) (s : State) : Host.Outcome State Fault Refusal :=
  match a with
  | .read off n => .next (s.answer (.busError off n))
  | .write off n _ => .next (s.answer (.busError off n))

/-- RD.CTRL (R260). -/
def execRdCtrl (s : State) : Host.Outcome State Fault Refusal :=
  .next (s.answer (.data s.ctrlWord))

/-- RD.STATUS (R260). -/
def execRdStatus (s : State) : Host.Outcome State Fault Refusal :=
  .next (s.answer (.data s.statusWord))

/-- RD.MAX_TRIES (R260). -/
def execRdMaxTries (s : State) : Host.Outcome State Fault Refusal :=
  .next (s.answer (.data s.maxTriesWord))

/-- RD.TIMEOUT (R260). -/
def execRdTimeout (s : State) : Host.Outcome State Fault Refusal :=
  .next (s.answer (.data s.timeoutWord))

/-- RD.TX_SEQ (R260). -/
def execRdTxSeq (s : State) : Host.Outcome State Fault Refusal :=
  .next (s.answer (.data s.txSeqWord))

/-- RD.HEAD_TRIES (R260). -/
def execRdHeadTries (s : State) : Host.Outcome State Fault Refusal :=
  .next (s.answer (.data s.headTriesWord))

/-- RD.HEAD_ELAPSED (R260). -/
def execRdHeadElapsed (s : State) : Host.Outcome State Fault Refusal :=
  .next (s.answer (.data s.headElapsedWord))

/-- RD.LAST_ACC (R260). -/
def execRdLastAcc (s : State) : Host.Outcome State Fault Refusal :=
  .next (s.answer (.data s.lastAccWord))

/-- RD.TX_DATA (R55: write-only, reads 0). -/
def execRdTxData (s : State) : Host.Outcome State Fault Refusal :=
  .next (s.answer (.data 0))

/-- RD.CMD (R55: write-only, reads 0). -/
def execRdCmd (s : State) : Host.Outcome State Fault Refusal :=
  .next (s.answer (.data 0))

/-- RD.TX_STAGE_LEN (R260). -/
def execRdTxStageLen (s : State) : Host.Outcome State Fault Refusal :=
  .next (s.answer (.data s.stageLenWord))

/-- RD.CAP0 (R260). -/
def execRdCap0 (s : State) : Host.Outcome State Fault Refusal :=
  .next (s.answer (.data s.cap0Word))

/-- RD.CAP1 (R260). -/
def execRdCap1 (s : State) : Host.Outcome State Fault Refusal :=
  .next (s.answer (.data s.cap1Word))

/-- RD.RX_INFO (R267). -/
def execRdRxInfo (s : State) : Host.Outcome State Fault Refusal :=
  .next (s.answer (.data s.rxInfoWord))

/-- RD.RX_DATA (R266): the next payload byte with VALID in bit 31, advancing `rdPtr`; or 0 and no change. -/
def execRdRxData (s : State) : Host.Outcome State Fault Refusal :=
  match s.rxDataByte with
  | some b => .next ({ s with rdPtr := s.rdPtr + 1 }.answer (.data (0x800000#24 ++ b)))
  | none => .next (s.answer (.data 0))

/-- RD.LAST_EVT (R260). -/
def execRdLastEvt (s : State) : Host.Outcome State Fault Refusal :=
  .next (s.answer (.data s.lastEvtWord))

/-- RD.IRQ_PENDING (R260). -/
def execRdIrqPending (s : State) : Host.Outcome State Fault Refusal :=
  .next (s.answer (.data s.irqPendingWord))

/-- RD.IRQ_ENABLE (R260). -/
def execRdIrqEnable (s : State) : Host.Outcome State Fault Refusal :=
  .next (s.answer (.data s.irqEnableWord))

/-- RD.CRCERR_CRC (R260). -/
def execRdCrcerrCrc (s : State) : Host.Outcome State Fault Refusal :=
  .next (s.answer (.data s.crcErrCrcWord))

/-- RD.CRCERR_HDR (R260). -/
def execRdCrcerrHdr (s : State) : Host.Outcome State Fault Refusal :=
  .next (s.answer (.data s.crcErrHdrWord))

/-- RD.DROP_INFO (R260). -/
def execRdDropInfo (s : State) : Host.Outcome State Fault Refusal :=
  .next (s.answer (.data s.dropInfoWord))

/-- RD.RX_ASM_LEN (R260). -/
def execRdRxAsmLen (s : State) : Host.Outcome State Fault Refusal :=
  .next (s.answer (.data s.asmLenWord))

/-- RD.CNT_RX_OK (R58, R260). -/
def execRdCntRxOk (s : State) : Host.Outcome State Fault Refusal :=
  .next (s.answer (.data (s.cnt.get .rxOk)))

/-- RD.CNT_RX_DUP (R58, R260). -/
def execRdCntRxDup (s : State) : Host.Outcome State Fault Refusal :=
  .next (s.answer (.data (s.cnt.get .rxDup)))

/-- RD.CNT_RX_CONFLICT (R58, R260). -/
def execRdCntRxConflict (s : State) : Host.Outcome State Fault Refusal :=
  .next (s.answer (.data (s.cnt.get .rxConflict)))

/-- RD.CNT_RX_CRC (R58, R260). -/
def execRdCntRxCrc (s : State) : Host.Outcome State Fault Refusal :=
  .next (s.answer (.data (s.cnt.get .rxCrc)))

/-- RD.CNT_RX_BADMARKER (R58, R260). -/
def execRdCntRxBadmarker (s : State) : Host.Outcome State Fault Refusal :=
  .next (s.answer (.data (s.cnt.get .rxBadmarker)))

/-- RD.CNT_RX_BADESC (R58, R260). -/
def execRdCntRxBadesc (s : State) : Host.Outcome State Fault Refusal :=
  .next (s.answer (.data (s.cnt.get .rxBadesc)))

/-- RD.CNT_RX_STRAY (R58, R260). -/
def execRdCntRxStray (s : State) : Host.Outcome State Fault Refusal :=
  .next (s.answer (.data (s.cnt.get .rxStray)))

/-- RD.CNT_RX_ABORT (R58, R260). -/
def execRdCntRxAbort (s : State) : Host.Outcome State Fault Refusal :=
  .next (s.answer (.data (s.cnt.get .rxAbort)))

/-- RD.CNT_RX_OVERFLOW (R58, R260). -/
def execRdCntRxOverflow (s : State) : Host.Outcome State Fault Refusal :=
  .next (s.answer (.data (s.cnt.get .rxOverflow)))

/-- RD.CNT_RX_OVERRUN (R58, R260). -/
def execRdCntRxOverrun (s : State) : Host.Outcome State Fault Refusal :=
  .next (s.answer (.data (s.cnt.get .rxOverrun)))

/-- RD.CNT_ACK_RX (R58, R260). -/
def execRdCntAckRx (s : State) : Host.Outcome State Fault Refusal :=
  .next (s.answer (.data (s.cnt.get .ackRx)))

/-- RD.CNT_NAK_RX (R58, R260). -/
def execRdCntNakRx (s : State) : Host.Outcome State Fault Refusal :=
  .next (s.answer (.data (s.cnt.get .nakRx)))

/-- RD.CNT_TX_FRAMES (R58, R260). -/
def execRdCntTxFrames (s : State) : Host.Outcome State Fault Refusal :=
  .next (s.answer (.data (s.cnt.get .txFrames)))

/-- RD.CNT_TX_RETRY (R58, R260). -/
def execRdCntTxRetry (s : State) : Host.Outcome State Fault Refusal :=
  .next (s.answer (.data (s.cnt.get .txRetry)))

/-- RD.CNT_TX_DROP (R58, R260). -/
def execRdCntTxDrop (s : State) : Host.Outcome State Fault Refusal :=
  .next (s.answer (.data (s.cnt.get .txDrop)))

/-- RD.CNT_TX_ACKED (R58, R260). -/
def execRdCntTxAcked (s : State) : Host.Outcome State Fault Refusal :=
  .next (s.answer (.data (s.cnt.get .txAcked)))

/-- RD.RESERVED_058 (R63): reserved space reads 0. -/
def execRdReserved058 (_off : Offset) (s : State) : Host.Outcome State Fault Refusal :=
  .next (s.answer (.data 0))

/-- RD.RESERVED_060 (R63): reserved space reads 0. -/
def execRdReserved060 (_off : Offset) (s : State) : Host.Outcome State Fault Refusal :=
  .next (s.answer (.data 0))

/-- RD.RESERVED_0C0 (R63): reserved space reads 0. -/
def execRdReserved0C0 (_off : Offset) (s : State) : Host.Outcome State Fault Refusal :=
  .next (s.answer (.data 0))

end Sys2Proof.Machine
end

