-- ==== Sys2Proof/Machine/Commands.lean ====
section
/-! DEFINITION. The meanings of the command rows (R272 to R278): what a write to CMD does. -/

namespace Sys2Proof.Machine

/-- CMD.NOP (R272). -/
def execCmdNop (s : State) : Host.Outcome State Fault Refusal :=
  .next s

/-- The marker of a frame enqueued now (R47, R273). -/
def State.txMarker (s : State) : Byte := if s.ctrl.txdir then Wire.mkT2E else Wire.mkE2T

/-- The record ENQUEUE makes of the staged payload (R273, R135). -/
def State.stagedFrame (s : State) : TxFrame where
  seq := s.txSeq
  marker := s.txMarker
  wire := encodeFrame s.txSeq s.txMarker s.stage

/-- CMD.ENQUEUE (R273). -/
def execCmdEnqueue (s : State) : Host.Outcome State Fault Refusal :=
  if s.ctrl.en = false ∨ s.txqFull then .next s.reject
  else
    let f := s.stagedFrame
    .next ({ s with txSeq := s.txSeq + 1, stage := [] }.qEnqueue f)

/-- CMD.RX_POP (R274). -/
def execCmdRxPop (s : State) : Host.Outcome State Fault Refusal :=
  match s.rxq with
  | [] => .next s.reject
  | _ :: rest => .next { s with rxq := rest, rdPtr := 0 }

/-- CMD.TX_STAGE_CLR (R275). -/
def execCmdTxStageClr (s : State) : Host.Outcome State Fault Refusal :=
  .next { s with stage := [] }

/-- CMD.LINK_RESET (R276): the protocol state goes back to its initial values, all else is kept. -/
def execCmdLinkReset (s : State) : Host.Outcome State Fault Refusal :=
  .next
    { s with
      rxState := .idle
      asm := []
      last := none
      txq := []
      tries := 0
      elapsed := 0
      txSeq := 1
      stage := []
      rxq := []
      rdPtr := 0 }

/-- CMD.CNT_CLR (R277). -/
def execCmdCntClr (s : State) : Host.Outcome State Fault Refusal :=
  .next { s with cnt := Counters.zero, lastEvt := 0 }

/-- CMD.RESERVED (R278). -/
def execCmdReserved (_v : Word) (s : State) : Host.Outcome State Fault Refusal :=
  .next s.reject

end Sys2Proof.Machine
end

