-- ==== Sys2Proof/Machine/HostWrite.lean ====
section
/-! DEFINITION. The meanings of the write rows (R261 to R265, R268 to R271). Every write is allowed whatever CTRL.EN
is; a completed write answers the host with no data (log entry 5). -/

namespace Sys2Proof.Machine

/-- WR.CTRL (R262). -/
def execWrCtrl (v : Word) (s : State) : Host.Outcome State Fault Refusal :=
  .next { s with ctrl := ctrlOf v }

/-- WR.MAX_TRIES (R263). -/
def execWrMaxTries (v : Word) (s : State) : Host.Outcome State Fault Refusal :=
  .next { s with maxTries := low8 v }

/-- WR.TIMEOUT (R264). -/
def execWrTimeout (v : Word) (s : State) : Host.Outcome State Fault Refusal :=
  .next { s with timeout := low16 v }

/-- WR.TX_SEQ (R265). -/
def execWrTxSeq (v : Word) (s : State) : Host.Outcome State Fault Refusal :=
  .next { s with txSeq := low8 v }

/-- WR.TX_DATA (R270): stage one byte, or reject it when the stage is full. -/
def execWrTxData (v : Word) (s : State) : Host.Outcome State Fault Refusal :=
  if s.stageFull then .next s.reject else .next { s with stage := s.stage ++ [low8 v] }

/-- The meaning of a command row. -/
def runCmdRow (r : CmdRow) (s : State) : Host.Outcome State Fault Refusal :=
  match r with
  | .nop => execCmdNop s
  | .enqueue => execCmdEnqueue s
  | .rxPop => execCmdRxPop s
  | .txStageClr => execCmdTxStageClr s
  | .linkReset => execCmdLinkReset s
  | .cntClr => execCmdCntClr s
  | .reserved v => execCmdReserved v s

/-- WR.CMD (R271): run the first command row that matches the value. -/
def execWrCmd (v : Word) (s : State) : Host.Outcome State Fault Refusal :=
  runCmdRow (cmdRow v) s

/-- WR.IRQ_PENDING (R268): write 1 to clear. -/
def execWrIrqPending (v : Word) (s : State) : Host.Outcome State Fault Refusal :=
  .next { s with irqPending := s.irqPending &&& ~~~low9 v }

/-- WR.IRQ_ENABLE (R269). -/
def execWrIrqEnable (v : Word) (s : State) : Host.Outcome State Fault Refusal :=
  .next { s with irqEnable := low9 v }

/-- WR.IGNORED (R261, R63): read-only registers and reserved offsets. -/
def execWrIgnored (_off : Offset) (_v : Word) (s : State) : Host.Outcome State Fault Refusal :=
  .next s

end Sys2Proof.Machine
end

