-- ==== Sys2Proof/Machine/Dispatch.lean ====
section
/-! DEFINITION. The meaning of every operation, one arm per constructor of `Instr`. -/

namespace Sys2Proof.Machine

def exec (i : Instr) (s : State) : Host.Outcome State Fault Refusal :=
  match i with
  | .rxIdleEsc => Sys2Proof.Machine.execRxIdleEsc s
  | .rxIdleStray b => Sys2Proof.Machine.execRxIdleStray b s
  | .rxIescSof => Sys2Proof.Machine.execRxIescSof s
  | .rxIescAck => Sys2Proof.Machine.execRxIescAck s
  | .rxIescNak => Sys2Proof.Machine.execRxIescNak s
  | .rxIescOther b => Sys2Proof.Machine.execRxIescOther b s
  | .rxSeqEsc => Sys2Proof.Machine.execRxSeqEsc s
  | .rxSeqData b => Sys2Proof.Machine.execRxSeqData b s
  | .rxSescEsc => Sys2Proof.Machine.execRxSescEsc s
  | .rxSescBad b => Sys2Proof.Machine.execRxSescBad b s
  | .rxTypeMk11 => Sys2Proof.Machine.execRxTypeMk11 s
  | .rxTypeMk91 => Sys2Proof.Machine.execRxTypeMk91 s
  | .rxTypeBad b => Sys2Proof.Machine.execRxTypeBad b s
  | .rxInfoEsc => Sys2Proof.Machine.execRxInfoEsc s
  | .rxInfoData b => Sys2Proof.Machine.execRxInfoData b s
  | .rxIfescEsc => Sys2Proof.Machine.execRxIfescEsc s
  | .rxIfescEof => Sys2Proof.Machine.execRxIfescEof s
  | .rxIfescAck => Sys2Proof.Machine.execRxIfescAck s
  | .rxIfescSof => Sys2Proof.Machine.execRxIfescSof s
  | .rxIfescBad b => Sys2Proof.Machine.execRxIfescBad b s
  | .cmdNop => Sys2Proof.Machine.execCmdNop s
  | .cmdEnqueue => Sys2Proof.Machine.execCmdEnqueue s
  | .cmdRxPop => Sys2Proof.Machine.execCmdRxPop s
  | .cmdTxStageClr => Sys2Proof.Machine.execCmdTxStageClr s
  | .cmdLinkReset => Sys2Proof.Machine.execCmdLinkReset s
  | .cmdCntClr => Sys2Proof.Machine.execCmdCntClr s
  | .cmdReserved v => Sys2Proof.Machine.execCmdReserved v s
  | .hostBusError a => Sys2Proof.Machine.execHostBusError a s
  | .rdCtrl => Sys2Proof.Machine.execRdCtrl s
  | .rdStatus => Sys2Proof.Machine.execRdStatus s
  | .rdMaxTries => Sys2Proof.Machine.execRdMaxTries s
  | .rdTimeout => Sys2Proof.Machine.execRdTimeout s
  | .rdTxSeq => Sys2Proof.Machine.execRdTxSeq s
  | .rdHeadTries => Sys2Proof.Machine.execRdHeadTries s
  | .rdHeadElapsed => Sys2Proof.Machine.execRdHeadElapsed s
  | .rdLastAcc => Sys2Proof.Machine.execRdLastAcc s
  | .rdTxData => Sys2Proof.Machine.execRdTxData s
  | .rdCmd => Sys2Proof.Machine.execRdCmd s
  | .rdTxStageLen => Sys2Proof.Machine.execRdTxStageLen s
  | .rdCap0 => Sys2Proof.Machine.execRdCap0 s
  | .rdCap1 => Sys2Proof.Machine.execRdCap1 s
  | .rdRxInfo => Sys2Proof.Machine.execRdRxInfo s
  | .rdRxData => Sys2Proof.Machine.execRdRxData s
  | .rdLastEvt => Sys2Proof.Machine.execRdLastEvt s
  | .rdIrqPending => Sys2Proof.Machine.execRdIrqPending s
  | .rdIrqEnable => Sys2Proof.Machine.execRdIrqEnable s
  | .rdCrcerrCrc => Sys2Proof.Machine.execRdCrcerrCrc s
  | .rdCrcerrHdr => Sys2Proof.Machine.execRdCrcerrHdr s
  | .rdDropInfo => Sys2Proof.Machine.execRdDropInfo s
  | .rdRxAsmLen => Sys2Proof.Machine.execRdRxAsmLen s
  | .rdCntRxOk => Sys2Proof.Machine.execRdCntRxOk s
  | .rdCntRxDup => Sys2Proof.Machine.execRdCntRxDup s
  | .rdCntRxConflict => Sys2Proof.Machine.execRdCntRxConflict s
  | .rdCntRxCrc => Sys2Proof.Machine.execRdCntRxCrc s
  | .rdCntRxBadmarker => Sys2Proof.Machine.execRdCntRxBadmarker s
  | .rdCntRxBadesc => Sys2Proof.Machine.execRdCntRxBadesc s
  | .rdCntRxStray => Sys2Proof.Machine.execRdCntRxStray s
  | .rdCntRxAbort => Sys2Proof.Machine.execRdCntRxAbort s
  | .rdCntRxOverflow => Sys2Proof.Machine.execRdCntRxOverflow s
  | .rdCntRxOverrun => Sys2Proof.Machine.execRdCntRxOverrun s
  | .rdCntAckRx => Sys2Proof.Machine.execRdCntAckRx s
  | .rdCntNakRx => Sys2Proof.Machine.execRdCntNakRx s
  | .rdCntTxFrames => Sys2Proof.Machine.execRdCntTxFrames s
  | .rdCntTxRetry => Sys2Proof.Machine.execRdCntTxRetry s
  | .rdCntTxDrop => Sys2Proof.Machine.execRdCntTxDrop s
  | .rdCntTxAcked => Sys2Proof.Machine.execRdCntTxAcked s
  | .rdReserved058 off => Sys2Proof.Machine.execRdReserved058 off s
  | .rdReserved060 off => Sys2Proof.Machine.execRdReserved060 off s
  | .rdReserved0C0 off => Sys2Proof.Machine.execRdReserved0C0 off s
  | .wrCtrl v => Sys2Proof.Machine.execWrCtrl v s
  | .wrMaxTries v => Sys2Proof.Machine.execWrMaxTries v s
  | .wrTimeout v => Sys2Proof.Machine.execWrTimeout v s
  | .wrTxSeq v => Sys2Proof.Machine.execWrTxSeq v s
  | .wrTxData v => Sys2Proof.Machine.execWrTxData v s
  | .wrCmd v => Sys2Proof.Machine.execWrCmd v s
  | .wrIrqPending v => Sys2Proof.Machine.execWrIrqPending v s
  | .wrIrqEnable v => Sys2Proof.Machine.execWrIrqEnable v s
  | .wrIgnored off v => Sys2Proof.Machine.execWrIgnored off v s
  | .evRxByte b => Sys2Proof.Machine.execEvRxByte b s
  | .evTick => Sys2Proof.Machine.execEvTick s
  | .evReset => Sys2Proof.Machine.execEvReset s

end Sys2Proof.Machine
end

