-- ==== Sys2Proof/Machine/Fetch.lean ====
section
/-! DEFINITION. Where the next operation comes from: the oldest waiting event (R88). The block fetches no instructions
(R33); this stands where another machine fetches. -/

namespace Sys2Proof.Machine

/-- The next event with the state that has taken it, if an event waits. -/
def State.takeEvent (s : State) : Option (Event × State) :=
  match s.input with
  | [] => none
  | e :: rest => some (e, { s with input := rest })

/-- An event put before all that wait. -/
def State.pushEvent (s : State) (e : Event) : State := { s with input := e :: s.input }

/-- An assembly buffer of the length R35 ties to a receive state: the given one where it fits, else that of a frame
01 11 just begun. -/
def fittingAsm (st : RxState) (asm : List Byte) : List Byte :=
  match st with
  | .idle | .idleEscape | .seqNo | .seqNoEscape => []
  | .type =>
    match asm with
    | a0 :: _ => [a0]
    | [] => [0x01]
  | .infoFrame | .infoFrameEscape =>
    match asm with
    | _ :: _ :: _ => asm
    | _ => [0x01, Wire.mkE2T]

/-- The state in which the next step runs what the decoder reads from a code. A receive decode word holds the receive
state, and it is decoded with EN = 1 and, in this model's reading of the table, with both markers known (log
entry 8). A word that selects no row changes nothing. -/
def State.placeCode (s : State) : Code → State
  | .rx w =>
    match RxState.ofCode (w.extractLsb' 8 3) with
    | none => s
    | some st =>
      { s with
        rxState := st
        asm := fittingAsm st s.asm
        ctrl := { s.ctrl with en := true, acc11 := true, acc91 := true } }.pushEvent (.rxByte (w.extractLsb' 0 8))
  | .cmd v => s.pushEvent (.host (.write 0x24 4 v))
  | .event e => s.pushEvent e

end Sys2Proof.Machine
end

