-- ==== Sys2Proof/Machine/Step.lean ====
section
/-! DEFINITION. One step: the block takes the next event and runs the operation it selects (R30, R88). -/

namespace Sys2Proof.Machine

/-- One step. With no event waiting the block waits: nothing changes (log entry 3). -/
def step (s : State) : Host.Outcome State Fault Refusal :=
  match s.takeEvent with
  | none => .next s
  | some (e, s') => exec (decodeEvent e) s'

/-- The state whose next step runs the operation of a word of the opcode table (log entry 8). -/
def State.withFetchWord (s : State) (nbits w : Nat) : State :=
  match tableCode nbits w with
  | none => s
  | some c => s.placeCode c

end Sys2Proof.Machine
end

