-- ==== Sys2Proof/Machine/Trace.lean ====
section
/-! DEFINITION. The trace syntax (R113, R114): the block has no assembler, and a program for it is a list of statements,
each standing for input events. -/

namespace Sys2Proof.Machine

/-- The registers of the window that have a name (R46, R58). -/
inductive Reg where
  | ctrl
  | status
  | maxTries
  | timeout
  | txSeq
  | headTries
  | headElapsed
  | lastAcc
  | txData
  | cmd
  | txStageLen
  | cap0
  | cap1
  | rxInfo
  | rxData
  | lastEvt
  | irqPending
  | irqEnable
  | crcerrCrc
  | crcerrHdr
  | dropInfo
  | rxAsmLen
  | cnt (c : CounterId)
deriving DecidableEq, Repr

/-- A counter's index in the table of R58. -/
def CounterId.index : CounterId → Nat
  | .rxOk => 0
  | .rxDup => 1
  | .rxConflict => 2
  | .rxCrc => 3
  | .rxBadmarker => 4
  | .rxBadesc => 5
  | .rxStray => 6
  | .rxAbort => 7
  | .rxOverflow => 8
  | .rxOverrun => 9
  | .ackRx => 10
  | .nakRx => 11
  | .txFrames => 12
  | .txRetry => 13
  | .txDrop => 14
  | .txAcked => 15

/-- `off(NAME)` (R46, R58). -/
def Reg.offset : Reg → Offset
  | .ctrl => 0x00
  | .status => 0x04
  | .maxTries => 0x08
  | .timeout => 0x0C
  | .txSeq => 0x10
  | .headTries => 0x14
  | .headElapsed => 0x18
  | .lastAcc => 0x1C
  | .txData => 0x20
  | .cmd => 0x24
  | .txStageLen => 0x28
  | .cap0 => 0x2C
  | .cap1 => 0x30
  | .rxInfo => 0x34
  | .rxData => 0x38
  | .lastEvt => 0x3C
  | .irqPending => 0x40
  | .irqEnable => 0x44
  | .crcerrCrc => 0x48
  | .crcerrHdr => 0x4C
  | .dropInfo => 0x50
  | .rxAsmLen => 0x54
  | .cnt c => BitVec.ofNat 8 (0x80 + 4 * c.index)

/-- The command names of R111. -/
inductive CmdName where
  | nop
  | enqueue
  | rxPop
  | txStageClr
  | linkReset
  | cntClr
deriving DecidableEq, Repr

/-- `code(OPNAME)` (R111). -/
def CmdName.code : CmdName → Word
  | .nop => 0
  | .enqueue => 1
  | .rxPop => 2
  | .txStageClr => 3
  | .linkReset => 4
  | .cntClr => 5

/-- The statements of R113 and the pseudo-statements of R114; texts are given as their bytes. -/
inductive Stmt where
  | rx (bs : List Byte)
  | tick
  | wr (r : Reg) (v : Word)
  | rd (r : Reg)
  | cmd (c : CmdName)
  | reset
  | ticks (n : Nat)
  | stage (bs : List Byte)
  | send (bs : List Byte)
  | rxframe (seq marker : Byte) (bs : List Byte)
  | rxack
  | rxnak
  | enable
deriving DecidableEq, Repr

/-- The events of a `stage` statement: one TX_DATA write per byte (R114). -/
def stageEvents (bs : List Byte) : List Event :=
  bs.map fun b => .host (.write Reg.txData.offset 4 (b.setWidth 32))

/-- The event of a `cmd` statement (R113). -/
def cmdEvent (c : CmdName) : Event := .host (.write Reg.cmd.offset 4 c.code)

/-- The events a statement denotes, in order (R113, R114). -/
def Stmt.events : Stmt → List Event
  | .rx bs => bs.map .rxByte
  | .tick => [.tick]
  | .wr r v => [.host (.write r.offset 4 v)]
  | .rd r => [.host (.read r.offset 4)]
  | .cmd c => [cmdEvent c]
  | .reset => [.reset]
  | .ticks n => List.replicate n .tick
  | .stage bs => stageEvents bs
  | .send bs => stageEvents bs ++ [cmdEvent .enqueue]
  | .rxframe seq marker bs => (wrap seq marker bs).map .rxByte
  | .rxack => ackSeq.map .rxByte
  | .rxnak => nakSeq.map .rxByte
  | .enable => [.host (.write Reg.ctrl.offset 4 0x0000000D)]

/-- The events of a whole trace. -/
def traceEvents (p : List Stmt) : List Event := (p.map Stmt.events).flatten

/-- A state with a trace's events put before those that wait. -/
def State.withTrace (s : State) (p : List Stmt) : State := { s with input := traceEvents p ++ s.input }

end Sys2Proof.Machine
end

