-- ==== Sys2Proof/Safety.lean ====
section
/-! DEFINITION. What claims speak of: the invariants the spec gives the state (R35 to R38, R41, R42, R45), runs of
steps, and the bytes a frame may hold. -/

namespace Sys2Proof.Machine

/-- The length of `asm` that R35 ties to the receive state. -/
def AsmLenOk (st : RxState) (n : Nat) : Prop :=
  match st with
  | .idle | .idleEscape | .seqNo | .seqNoEscape => n = 0
  | .type => n = 1
  | .infoFrame | .infoFrameEscape => 2 ≤ n

/-- A direction marker of R6. -/
abbrev IsMarker (b : Byte) : Prop := b = Wire.mkE2T ∨ b = Wire.mkT2E

/-- The invariants the spec states of the block's state at every event boundary. -/
structure State.Inv (s : State) : Prop where
  /-- The parameters lie in the ranges of R8. -/
  params_legal : s.params.Legal
  /-- R35: the length of `asm` is tied to the receive state. -/
  asm_len : AsmLenOk s.rxState s.asm.length
  /-- R35: `asm` holds at most RXBUF_MAX bytes. -/
  asm_cap : s.asm.length ≤ s.params.rxbufMax
  /-- R173: the second logical byte is a marker. -/
  asm_marker : ∀ m, s.asm[1]? = some m → IsMarker m
  /-- R36: `last` is a whole frame of 4 to RXBUF_MAX bytes with a marker and a right CRC. -/
  last_ok : ∀ l, s.last = some l →
    4 ≤ l.bytes.length ∧ l.bytes.length ≤ s.params.rxbufMax ∧ IsMarker l.marker ∧
      crc16 (crcCovered l.bytes) = crcField l.bytes
  /-- R37: at most TXQ_DEPTH frames. -/
  txq_len : s.txq.length ≤ s.params.txqDepth
  /-- R37: each `wire` is the complete encoded frame of its record. -/
  txq_wire : ∀ f ∈ s.txq, IsMarker f.marker ∧
    ∃ p : List Byte, p.length ≤ s.params.txPayloadMax ∧ f.wire = encodeFrame f.seq f.marker p
  /-- R38, R230: both counters are 0 when the queue is empty. -/
  idle_counters : s.txq = [] → s.tries = 0 ∧ s.elapsed = 0
  /-- R38: `tries` is at most 256. -/
  tries_le : s.tries.toNat ≤ 256
  /-- R38: `elapsed` is at most 65536. -/
  elapsed_le : s.elapsed.toNat ≤ 65536
  /-- R41: at most TX_PAYLOAD_MAX staged bytes. -/
  stage_len : s.stage.length ≤ s.params.txPayloadMax
  /-- R42: at most RXQ_DEPTH messages. -/
  rxq_len : s.rxq.length ≤ s.params.rxqDepth
  /-- R203: a delivered message comes from a frame that fitted the assembly buffer. -/
  rxq_msg : ∀ m ∈ s.rxq, IsMarker m.marker ∧ m.payload.length + 4 ≤ s.params.rxbufMax
  /-- R42: the read index points into the head payload, or just past it. -/
  rd_ptr : s.rdPtr.toNat ≤ (s.rxq.head?.map (·.payload.length)).getD 0
  /-- R300: codes 13 to 15 are never written. -/
  evt_le : s.lastEvt.toNat ≤ 12

/-- `n` steps lead from `s` to `t`, with no stop on the way. -/
def RunsTo (n : Nat) (s t : State) : Prop := Sys2Proof.core.run n s = .next t

/-- The receive decode is at work in the given state: EN = 1 and the machine is in `st` (R161). -/
abbrev ReceivesIn (s : State) (st : RxState) : Prop := s.ctrl.en = true ∧ s.rxState = st

/-- A receive row leads from `s` to `t`, and so does the received byte `b` where the row is the one selected. -/
def RowRuns (row : Instr) (b : Byte) (selected : Prop) (s t : State) : Prop :=
  exec row s = .next t ∧ (selected → exec (.evRxByte b) s = .next t)

/-- A command row leads from `s` to `t`, and so does the write of its word to CMD (R271). -/
def CommandRuns (row : Instr) (v : Word) (s t : State) : Prop :=
  exec row s = .next t ∧ exec (.wrCmd v) s = .next t

/-- A read row answers `w` and changes nothing else (R260). -/
def ReadAnswers (row : Instr) (s : State) (w : Word) : Prop :=
  exec row s = .next { s with busOut := s.busOut ++ [.data w] }

/-- Every escape byte of a byte sequence is the first of a pair of two escapes: the form of a stuffed sequence (R105,
R133). -/
def AllEscapesPaired : List Byte → Bool
  | [] => true
  | [b] => b != Wire.esc
  | b :: c :: bs => if b = Wire.esc then c == Wire.esc && AllEscapesPaired bs else AllEscapesPaired (c :: bs)

/-- One byte of the CRC by polynomial division: the byte enters at the top, and each of eight shifts takes 0x1021 away
when a 1 leaves (the polynomial of R140). -/
def polyCrcStep (r : BitVec 16) (b : Byte) : BitVec 16 :=
  let shift := fun (x : BitVec 16) => if x.getLsbD 15 then (x <<< 1) ^^^ 0x1021#16 else x <<< 1
  shift (shift (shift (shift (shift (shift (shift (shift (r ^^^ (b.setWidth 16 <<< 8)))))))))

end Sys2Proof.Machine
end

