-- ==== Sys2Proof/Certificates/Slice0/Obligations.lean ====
section
/-! DEFINITION. The statements for the provers. There is no data memory (R80): a frame is the whole record of the next
state, so an equation `… = .next t` says every register that changes and that every other one does not. -/

open Sys2Proof Sys2Proof.Machine

/-! ## Encoding and dispatch -/

/-- Decoding the code of a well-formed operation gives the operation back, for all 81 rows and both marker enables at
every value. -/
def Obligations.DecodeEncodeAgree : Prop :=
  ∀ (m : Markers) (i : Instr), i.wellFormed m = true → decode m (encode i) = .ok i

/-- What the decoder answers is well formed and encodes to the code it was read from. -/
def Obligations.DecodedOperationsEncodeBack : Prop :=
  ∀ (m : Markers) (c : Code) (i : Instr), decode m c = .ok i → i.wellFormed m = true ∧ encode i = c

/-- R106: every receive state and byte selects exactly one row, whatever the marker enables. -/
def Obligations.EveryReceiveWordSelectsOneRow : Prop :=
  ∀ (m : Markers) (st : RxState) (b : Byte),
    ∃! i : Instr, i.wellFormed m = true ∧ encode i = .rx (rxWord st b)

/-- A few words written out from R112, R111 and R46 decode to the operation they stand for. That a word with state
code 7, which R34 says is never held, is answered by the error rxStateCode7 is the model's reading (DEDUCED, log entry
9). -/
def Obligations.SampleWordsDecode : Prop :=
  decode ⟨true, true⟩ (.rx 0x010#11) = .ok .rxIdleEsc ∧
  decode ⟨true, true⟩ (.rx 0x411#11) = .ok .rxTypeMk11 ∧
  decode ⟨false, true⟩ (.rx 0x411#11) = .ok (.rxTypeBad 0x11#8) ∧
  decode ⟨true, true⟩ (.rx 0x6FF#11) = .ok .rxIfescEof ∧
  decode ⟨true, true⟩ (.rx 0x700#11) = .error (.rxStateCode7 0x700#11) ∧
  decode ⟨true, true⟩ (.cmd 0x00000004#32) = .ok .cmdLinkReset ∧
  decode ⟨true, true⟩ (.cmd 0x00000011#32) = .ok (.cmdReserved 0x11#32) ∧
  decode ⟨true, true⟩ (.event (.host (.read 0x38#8 4))) = .ok .rdRxData ∧
  decode ⟨true, true⟩ (.event (.host (.read 0x02#8 4))) = .ok (.hostBusError (.read 0x02#8 4)) ∧
  decode ⟨true, true⟩ (.event (.host (.write 0x40#8 4 0x3#32))) = .ok (.wrIrqPending 0x3#32) ∧
  decode ⟨true, true⟩ (.event (.host (.write 0x04#8 4 0x3#32))) = .ok (.wrIgnored 0x04#8 0x3#32)

/-- A step takes the oldest event and runs the operation decoded from it. Under EN = 1 a received byte runs the row
decoded from state and byte; a write to CMD runs the row decoded from its value. With no event waiting nothing changes
(the model's choice, log entry 3). -/
def Obligations.StepRunsDecodedOperation : Prop :=
  ∀ s : State,
    (s.input = [] → step s = .next s) ∧
    ∀ (e : Event) (rest : List Event), s.input = e :: rest →
      (∀ i, decode s.markers (.event e) = .ok i → step s = exec i { s with input := rest }) ∧
      (∀ b i, e = .rxByte b → s.ctrl.en = true → decode s.markers (.rx (rxWord s.rxState b)) = .ok i →
        step s = exec i { s with input := rest }) ∧
      (∀ v i, e = .host (.write 0x24#8 4 v) → decode s.markers (.cmd v) = .ok i →
        step s = exec i { s with input := rest })

/-- R161, R112: with EN = 0 a received byte has no effect; with EN = 1 it runs the first row of the table that matches,
and completes wherever R35's length of the buffer holds. -/
def Obligations.ReceivedByteRunsItsRow : Prop :=
  ∀ (s : State) (b : Byte),
    (s.ctrl.en = false → exec (.evRxByte b) s = .next s) ∧
    ((s.rxState = .infoFrameEscape → 2 ≤ s.asm.length) → ∃ t, exec (.evRxByte b) s = .next t) ∧
    (ReceivesIn s .idle → exec (.evRxByte b) s = exec (if b = 0x10#8 then .rxIdleEsc else .rxIdleStray b) s) ∧
    (ReceivesIn s .idleEscape →
      exec (.evRxByte b) s =
        exec (if b = 0x00#8 then .rxIescSof else if b = 0x11#8 then .rxIescAck else if b = 0x12#8 then .rxIescNak
          else .rxIescOther b) s) ∧
    (ReceivesIn s .seqNo → exec (.evRxByte b) s = exec (if b = 0x10#8 then .rxSeqEsc else .rxSeqData b) s) ∧
    (ReceivesIn s .seqNoEscape →
      exec (.evRxByte b) s = exec (if b = 0x10#8 then .rxSescEsc else .rxSescBad b) s) ∧
    (ReceivesIn s .type →
      exec (.evRxByte b) s =
        exec (if b = 0x11#8 ∧ s.ctrl.acc11 = true then .rxTypeMk11
          else if b = 0x91#8 ∧ s.ctrl.acc91 = true then .rxTypeMk91 else .rxTypeBad b) s) ∧
    (ReceivesIn s .infoFrame → exec (.evRxByte b) s = exec (if b = 0x10#8 then .rxInfoEsc else .rxInfoData b) s) ∧
    (ReceivesIn s .infoFrameEscape →
      exec (.evRxByte b) s =
        exec (if b = 0x10#8 then .rxIfescEsc else if b = 0xFF#8 then .rxIfescEof else if b = 0x11#8 then .rxIfescAck
          else if b = 0x00#8 then .rxIfescSof else .rxIfescBad b) s)

/-! ## Receive rows -/

/-- R163, R169, R175: the escape byte leads to the escape state and changes nothing else. -/
def Obligations.EscapeByteEntersEscapeState : Prop :=
  ∀ s : State,
    RowRuns .rxIdleEsc 0x10#8 (ReceivesIn s .idle) s { s with rxState := .idleEscape } ∧
    RowRuns .rxSeqEsc 0x10#8 (ReceivesIn s .seqNo) s { s with rxState := .seqNoEscape } ∧
    RowRuns .rxInfoEsc 0x10#8 (ReceivesIn s .infoFrame) s { s with rxState := .infoFrameEscape }

/-- R164: any other byte in Idle is counted and noted, and the machine stays in Idle; no interrupt. -/
def Obligations.StrayByteIsCountedAndNoted : Prop :=
  ∀ (s : State) (b : Byte),
    RowRuns (.rxIdleStray b) b (ReceivesIn s .idle ∧ b ≠ 0x10#8) s
      { s with rxState := .idle, asm := [], cnt := s.cnt.bump .rxStray, lastEvt := 1#4 }

/-- R165, R168: in IdleEscape the start marker begins a frame with an empty buffer; a byte that is no start marker,
ACK or NAK goes back to Idle, uncounted. -/
def Obligations.IdleEscapeStartsFrameOrReturns : Prop :=
  ∀ (s : State) (b : Byte),
    RowRuns .rxIescSof 0x00#8 (ReceivesIn s .idleEscape) s { s with rxState := .seqNo, asm := [] } ∧
    RowRuns (.rxIescOther b) b (ReceivesIn s .idleEscape ∧ b ≠ 0x00#8 ∧ b ≠ 0x11#8 ∧ b ≠ 0x12#8) s
      { s with rxState := .idle, asm := [] }

/-- R166, R226, R227: an ACK dequeues the head, sets TX_ACKED and sends the next head in the same event; with an empty
queue it is only counted. -/
def Obligations.AckDequeuesHeadAndSendsNext : Prop :=
  ∀ s : State,
    (s.txq = [] →
      RowRuns .rxIescAck 0x11#8 (ReceivesIn s .idleEscape) s
        { s with rxState := .idle, asm := [], cnt := s.cnt.bump .ackRx }) ∧
    (∀ f, s.txq = [f] →
      RowRuns .rxIescAck 0x11#8 (ReceivesIn s .idleEscape) s
        { s with
          rxState := .idle, asm := [], txq := [], tries := 0, elapsed := 0
          cnt := (s.cnt.bump .ackRx).bump .txAcked
          irqPending := s.irqPending ||| 0x002#9 }) ∧
    (∀ f g r, s.txq = f :: g :: r →
      RowRuns .rxIescAck 0x11#8 (ReceivesIn s .idleEscape) s
        { s with
          rxState := .idle, asm := [], txq := g :: r, tries := 0, elapsed := 0
          txOut := s.txOut ++ g.wire
          cnt := ((s.cnt.bump .ackRx).bump .txAcked).bump .txFrames
          irqPending := s.irqPending ||| 0x002#9 })

/-- R167, R228, R225, R227: a NAK is only counted, with no resend, unless the tries already exceed the maximum: then it
drops the head with cause 1 and sends the next head in the same event. -/
def Obligations.NakDropsOnlyExhaustedHead : Prop :=
  ∀ s : State,
    (s.txq = [] ∨ s.tries.toNat ≤ s.maxTries.toNat →
      RowRuns .rxIescNak 0x12#8 (ReceivesIn s .idleEscape) s
        { s with rxState := .idle, asm := [], cnt := s.cnt.bump .nakRx }) ∧
    (∀ f, s.txq = [f] → s.maxTries.toNat < s.tries.toNat →
      RowRuns .rxIescNak 0x12#8 (ReceivesIn s .idleEscape) s
        { s with
          rxState := .idle, asm := [], txq := [], tries := 0, elapsed := 0
          dropInfo := { seq := f.seq, marker := f.marker, cause := 1#1 }
          cnt := (s.cnt.bump .nakRx).bump .txDrop
          lastEvt := 11#4
          irqPending := s.irqPending ||| 0x004#9 }) ∧
    (∀ f g r, s.txq = f :: g :: r → s.maxTries.toNat < s.tries.toNat →
      RowRuns .rxIescNak 0x12#8 (ReceivesIn s .idleEscape) s
        { s with
          rxState := .idle, asm := [], txq := g :: r, tries := 0, elapsed := 0
          dropInfo := { seq := f.seq, marker := f.marker, cause := 1#1 }
          txOut := s.txOut ++ g.wire
          cnt := ((s.cnt.bump .nakRx).bump .txDrop).bump .txFrames
          lastEvt := 11#4
          irqPending := s.irqPending ||| 0x004#9 })

/-- R170, R171: the sequence byte, plain or stuffed, goes into the buffer and the machine to Type. In these two states
the buffer is empty, so the byte cannot overflow it. -/
def Obligations.SequenceByteIsStored : Prop :=
  ∀ (s : State) (b : Byte),
    (s.asm.length ≠ s.params.rxbufMax →
      RowRuns (.rxSeqData b) b (ReceivesIn s .seqNo ∧ b ≠ 0x10#8) s
        { s with rxState := .type, asm := s.asm ++ [b] } ∧
      RowRuns .rxSescEsc 0x10#8 (ReceivesIn s .seqNoEscape) s
        { s with rxState := .type, asm := s.asm ++ [0x10#8] }) ∧
    (s.Inv → s.rxState = .seqNo ∨ s.rxState = .seqNoEscape → s.asm = [] ∧ s.asm.length ≠ s.params.rxbufMax)

/-- R172, R181: an unsupported escape pair is discarded, counted and noted, RX_FRAMING is set, no NAK is sent and the
buffer is kept. -/
def Obligations.BadEscapeIsDiscarded : Prop :=
  ∀ (s : State) (b : Byte),
    RowRuns (.rxSescBad b) b (ReceivesIn s .seqNoEscape ∧ b ≠ 0x10#8) s
      { s with
        rxState := .seqNo
        cnt := s.cnt.bump .rxBadesc
        lastEvt := 2#4
        irqPending := s.irqPending ||| 0x040#9 } ∧
    RowRuns (.rxIfescBad b) b
      (ReceivesIn s .infoFrameEscape ∧ b ≠ 0x10#8 ∧ b ≠ 0xFF#8 ∧ b ≠ 0x11#8 ∧ b ≠ 0x00#8) s
      { s with
        rxState := .infoFrame
        cnt := s.cnt.bump .rxBadesc
        lastEvt := 2#4
        irqPending := s.irqPending ||| 0x040#9 }

/-- R173: a known direction marker goes into the buffer and the machine to InfoFrame. In Type the buffer holds one
byte, so the marker cannot overflow it. -/
def Obligations.KnownMarkerIsStored : Prop :=
  ∀ s : State,
    (s.asm.length ≠ s.params.rxbufMax →
      RowRuns .rxTypeMk11 0x11#8 (ReceivesIn s .type ∧ s.ctrl.acc11 = true) s
        { s with rxState := .infoFrame, asm := s.asm ++ [0x11#8] } ∧
      RowRuns .rxTypeMk91 0x91#8 (ReceivesIn s .type ∧ s.ctrl.acc91 = true) s
        { s with rxState := .infoFrame, asm := s.asm ++ [0x91#8] }) ∧
    (s.Inv → s.rxState = .type → s.asm.length = 1 ∧ s.asm.length ≠ s.params.rxbufMax)

/-- R174: any other byte in Type is answered with NAK, and the frame is discarded. -/
def Obligations.UnknownMarkerIsNaked : Prop :=
  ∀ (s : State) (b : Byte),
    RowRuns (.rxTypeBad b) b
      (ReceivesIn s .type ∧ ¬ (b = 0x11#8 ∧ s.ctrl.acc11 = true) ∧ ¬ (b = 0x91#8 ∧ s.ctrl.acc91 = true)) s
      { s with
        rxState := .idle, asm := []
        txOut := s.txOut ++ [0x10#8, 0x12#8]
        cnt := s.cnt.bump .rxBadmarker
        lastEvt := 3#4
        irqPending := s.irqPending ||| 0x040#9 }

/-- R176, R177: a payload or CRC byte, plain or stuffed, goes into a buffer that has room; one that finds the buffer
full is dropped and NAKed. -/
def Obligations.FrameByteIsStoredOrOverflows : Prop :=
  ∀ (s : State) (b : Byte),
    let full := { s with
      rxState := .idle, asm := []
      txOut := s.txOut ++ [0x10#8, 0x12#8]
      cnt := s.cnt.bump .rxOverflow
      lastEvt := 8#4
      irqPending := s.irqPending ||| 0x040#9 }
    RowRuns (.rxInfoData b) b (ReceivesIn s .infoFrame ∧ b ≠ 0x10#8) s
      (if s.asm.length = s.params.rxbufMax then full else { s with rxState := .infoFrame, asm := s.asm ++ [b] }) ∧
    RowRuns .rxIfescEsc 0x10#8 (ReceivesIn s .infoFrameEscape) s
      (if s.asm.length = s.params.rxbufMax then full else { s with rxState := .infoFrame, asm := s.asm ++ [0x10#8] })

/-- R162: a logical byte that finds the buffer full is dropped and NAKed, whichever row appends it; in SeqNo,
SeqNoEscape and Type this is a state no run reaches. -/
def Obligations.FullBufferOverflows : Prop :=
  ∀ (s : State) (b : Byte), s.asm.length = s.params.rxbufMax →
    let t := { s with
      rxState := .idle, asm := []
      txOut := s.txOut ++ [0x10#8, 0x12#8]
      cnt := s.cnt.bump .rxOverflow
      lastEvt := 8#4
      irqPending := s.irqPending ||| 0x040#9 }
    RowRuns (.rxSeqData b) b (ReceivesIn s .seqNo ∧ b ≠ 0x10#8) s t ∧
    RowRuns .rxSescEsc 0x10#8 (ReceivesIn s .seqNoEscape) s t ∧
    RowRuns .rxTypeMk11 0x11#8 (ReceivesIn s .type ∧ s.ctrl.acc11 = true) s t ∧
    RowRuns .rxTypeMk91 0x91#8 (ReceivesIn s .type ∧ s.ctrl.acc91 = true) s t ∧
    RowRuns (.rxInfoData b) b (ReceivesIn s .infoFrame ∧ b ≠ 0x10#8) s t ∧
    RowRuns .rxIfescEsc 0x10#8 (ReceivesIn s .infoFrameEscape) s t

/-- R179, R226, R227: an ACK inside a frame is honoured like any other, and the frame goes on with its buffer as it
was. -/
def Obligations.AckInsideFrameKeepsFrame : Prop :=
  ∀ s : State,
    (s.txq = [] →
      RowRuns .rxIfescAck 0x11#8 (ReceivesIn s .infoFrameEscape) s
        { s with rxState := .infoFrame, cnt := s.cnt.bump .ackRx }) ∧
    (∀ f, s.txq = [f] →
      RowRuns .rxIfescAck 0x11#8 (ReceivesIn s .infoFrameEscape) s
        { s with
          rxState := .infoFrame, txq := [], tries := 0, elapsed := 0
          cnt := (s.cnt.bump .ackRx).bump .txAcked
          irqPending := s.irqPending ||| 0x002#9 }) ∧
    (∀ f g r, s.txq = f :: g :: r →
      RowRuns .rxIfescAck 0x11#8 (ReceivesIn s .infoFrameEscape) s
        { s with
          rxState := .infoFrame, txq := g :: r, tries := 0, elapsed := 0
          txOut := s.txOut ++ g.wire
          cnt := ((s.cnt.bump .ackRx).bump .txAcked).bump .txFrames
          irqPending := s.irqPending ||| 0x002#9 })

/-- R180: a start marker inside a frame abandons it and restarts assembly; no NAK. -/
def Obligations.StartMarkerAbandonsFrame : Prop :=
  ∀ s : State,
    RowRuns .rxIfescSof 0x00#8 (ReceivesIn s .infoFrameEscape) s
      { s with
        rxState := .seqNo, asm := []
        cnt := s.cnt.bump .rxAbort
        lastEvt := 4#4
        irqPending := s.irqPending ||| 0x040#9 }

/-! ## The guard -/

/-- R200, R201, R202: a frame of fewer than 4 bytes, or whose CRC does not match, is NAKed and recorded, and nothing is
delivered. The buffer is `l` and then its last two bytes. -/
def Obligations.BadCrcOrShortFrameIsNaked : Prop :=
  ∀ (s : State) (l body : List Byte) (hi lo a0 a1 : Byte),
    s.asm = l ++ [hi, lo] → s.asm = a0 :: a1 :: body → (s.asm.length < 4 ∨ crc16 l ≠ hi ++ lo) →
    RowRuns .rxIfescEof 0xFF#8 (ReceivesIn s .infoFrameEscape) s
      { s with
        rxState := .idle, asm := []
        txOut := s.txOut ++ [0x10#8, 0x12#8]
        crcErr :=
          { recv := hi ++ lo, comp := crc16 l, seq := a0, type := a1, len := BitVec.ofNat 16 (l.length + 2) }
        cnt := s.cnt.bump .rxCrc
        lastEvt := 5#4
        irqPending := s.irqPending ||| 0x008#9 }

/-- R200, R203: a frame with a right CRC and another sequence number than the last accepted one is ACKed, remembered
whole, and its payload delivered. -/
def Obligations.NewFrameIsAccepted : Prop :=
  ∀ (s : State) (q m hi lo : Byte) (p : List Byte),
    s.asm = q :: m :: p ++ [hi, lo] → crc16 (q :: m :: p) = hi ++ lo →
    (∀ l, s.last = some l → l.seq ≠ q) → s.rxq.length ≠ s.params.rxqDepth →
    RowRuns .rxIfescEof 0xFF#8 (ReceivesIn s .infoFrameEscape) s
      { s with
        rxState := .idle, asm := []
        txOut := s.txOut ++ [0x10#8, 0x11#8]
        last := some { seq := q, marker := m, body := p ++ [hi, lo] }
        rxq := s.rxq ++ [{ seq := q, marker := m, payload := p }]
        cnt := s.cnt.bump .rxOk
        irqPending := s.irqPending ||| 0x001#9 }

/-- R204: a new frame that finds the delivery FIFO full is NAKed; `last` and the FIFO stay. -/
def Obligations.FullFifoRefusesNewFrame : Prop :=
  ∀ (s : State) (q m hi lo : Byte) (p : List Byte),
    s.asm = q :: m :: p ++ [hi, lo] → crc16 (q :: m :: p) = hi ++ lo →
    (∀ l, s.last = some l → l.seq ≠ q) → s.rxq.length = s.params.rxqDepth →
    RowRuns .rxIfescEof 0xFF#8 (ReceivesIn s .infoFrameEscape) s
      { s with
        rxState := .idle, asm := []
        txOut := s.txOut ++ [0x10#8, 0x12#8]
        cnt := s.cnt.bump .rxOverrun
        lastEvt := 9#4
        irqPending := s.irqPending ||| 0x080#9 }

/-- R205: a frame equal to the last accepted one is ACKed again and not delivered again, the FIFO full or not. -/
def Obligations.ReplayIsAckedNotDelivered : Prop :=
  ∀ (s : State) (q m hi lo : Byte) (p : List Byte),
    s.asm = q :: m :: p ++ [hi, lo] → crc16 (q :: m :: p) = hi ++ lo →
    s.last = some { seq := q, marker := m, body := p ++ [hi, lo] } →
    RowRuns .rxIfescEof 0xFF#8 (ReceivesIn s .infoFrameEscape) s
      { s with
        rxState := .idle, asm := []
        txOut := s.txOut ++ [0x10#8, 0x11#8]
        cnt := s.cnt.bump .rxDup
        lastEvt := 6#4
        irqPending := s.irqPending ||| 0x010#9 }

/-- R206: the last accepted sequence number with other content is a conflict: NAK, no delivery, `last` kept. -/
def Obligations.ConflictIsNaked : Prop :=
  ∀ (s : State) (q m hi lo : Byte) (p : List Byte) (l : LastFrame),
    s.asm = q :: m :: p ++ [hi, lo] → crc16 (q :: m :: p) = hi ++ lo →
    s.last = some l → l.seq = q → l ≠ { seq := q, marker := m, body := p ++ [hi, lo] } →
    RowRuns .rxIfescEof 0xFF#8 (ReceivesIn s .infoFrameEscape) s
      { s with
        rxState := .idle, asm := []
        txOut := s.txOut ++ [0x10#8, 0x12#8]
        cnt := s.cnt.bump .rxConflict
        lastEvt := 7#4
        irqPending := s.irqPending ||| 0x020#9 }

/-! ## The codec -/

/-- R140 (the spec's own note on R130): the five steps compute polynomial division by 0x1021 from 0. -/
def Obligations.CrcIsPolynomialDivision : Prop :=
  ∀ bs : List Byte, crc16 bs = bs.foldl polyCrcStep 0#16

/-- R130's corner case, for more than one bit: a change within one byte always changes the CRC. -/
def Obligations.OneByteChangeChangesCrc : Prop :=
  ∀ (xs ys : List Byte) (b c : Byte), b ≠ c → crc16 (xs ++ b :: ys) ≠ crc16 (xs ++ c :: ys)

/-- R136: the lengths of an emitted frame, from the terminated payload and the number of escapes among sequence byte,
payload and CRC bytes. -/
def Obligations.FrameLengthBounds : Prop :=
  ∀ (q m : Byte) (p : List Byte), IsMarker m →
    let pt := terminate p
    let k := (q :: pt ++ crcBytes (q :: m :: pt)).count 0x10#8
    1 ≤ pt.length ∧ pt.length ≤ p.length + 1 ∧
      (logicalFrame q m pt).length = pt.length + 4 ∧
      (encodeFrame q m p).length = pt.length + 8 + k ∧ k ≤ pt.length + 2 ∧
      9 ≤ (encodeFrame q m p).length ∧ (encodeFrame q m p).length ≤ 2 * pt.length + 10

/-- R102, R105: between its delimiters an emitted frame holds no escape that is not one of a pair. -/
def Obligations.FrameBodyPairsEveryEscape : Prop :=
  ∀ (q m : Byte) (p : List Byte),
    ∃ body, encodeFrame q m p = [0x10#8, 0x00#8] ++ body ++ [0x10#8, 0xFF#8] ∧ AllEscapesPaired body = true

/-! ## The send queue -/

/-- R222, R223, R224: a tick has no effect when disabled or with an empty queue. Otherwise it counts up to the timeout;
one that exceeds the timeout sends the head's same bytes again while the tries do not exceed the maximum, and else drops
the head with cause 0 and sends the next head in the same event (R225, R221). -/
def Obligations.TickCountsRetransmitsOrDrops : Prop :=
  ∀ s : State,
    (s.ctrl.en = false ∨ s.txq = [] → exec .evTick s = .next s) ∧
    (s.ctrl.en = true → s.txq ≠ [] → s.elapsed.toNat + 1 ≤ s.timeout.toNat →
      exec .evTick s = .next { s with elapsed := s.elapsed + 1 }) ∧
    (s.ctrl.en = true → s.elapsed.toNat ≤ 65536 → s.timeout.toNat < s.elapsed.toNat + 1 →
      (∀ f r, s.txq = f :: r → s.tries.toNat ≤ s.maxTries.toNat →
        exec .evTick s = .next
          { s with
            tries := s.tries + 1, elapsed := 0
            txOut := s.txOut ++ f.wire
            cnt := s.cnt.bump .txRetry }) ∧
      (∀ f, s.txq = [f] → s.maxTries.toNat < s.tries.toNat →
        exec .evTick s = .next
          { s with
            txq := [], tries := 0, elapsed := 0
            dropInfo := { seq := f.seq, marker := f.marker, cause := 0#1 }
            cnt := s.cnt.bump .txDrop
            lastEvt := 10#4
            irqPending := s.irqPending ||| 0x004#9 }) ∧
      (∀ f g r, s.txq = f :: g :: r → s.maxTries.toNat < s.tries.toNat →
        exec .evTick s = .next
          { s with
            txq := g :: r, tries := 0, elapsed := 0
            dropInfo := { seq := f.seq, marker := f.marker, cause := 0#1 }
            txOut := s.txOut ++ g.wire
            cnt := (s.cnt.bump .txDrop).bump .txFrames
            lastEvt := 10#4
            irqPending := s.irqPending ||| 0x004#9 }))

/-! ## Commands -/

/-- R271: a write to CMD always completes, and runs the first command row that matches the value. -/
def Obligations.CommandWriteRunsItsRow : Prop :=
  ∀ (s : State) (v : Word),
    (∃ t, exec (.wrCmd v) s = .next t) ∧
      exec (.wrCmd v) s =
        exec (if v = 0#32 then .cmdNop else if v = 1#32 then .cmdEnqueue else if v = 2#32 then .cmdRxPop
          else if v = 3#32 then .cmdTxStageClr else if v = 4#32 then .cmdLinkReset
          else if v = 5#32 then .cmdCntClr else .cmdReserved v) s

/-- R273, R220: ENQUEUE is refused while disabled or with a full queue. Otherwise it encodes the staged payload under
the next sequence number; into an empty queue the frame is sent at once, behind a head it only waits and the head's
counters stay. -/
def Obligations.EnqueueEncodesAndSendsWhenIdle : Prop :=
  ∀ s : State,
    let mk : Byte := if s.ctrl.txdir = true then 0x91#8 else 0x11#8
    let w := encodeFrame s.txSeq mk s.stage
    (s.ctrl.en = false ∨ s.txq.length = s.params.txqDepth →
      CommandRuns .cmdEnqueue 1#32 s { s with lastEvt := 12#4, irqPending := s.irqPending ||| 0x100#9 }) ∧
    (s.ctrl.en = true → s.txq.length ≠ s.params.txqDepth → s.txq = [] →
      CommandRuns .cmdEnqueue 1#32 s
        { s with
          txq := [{ seq := s.txSeq, marker := mk, wire := w }]
          tries := 0, elapsed := 0
          txSeq := s.txSeq + 1, stage := []
          txOut := s.txOut ++ w
          cnt := s.cnt.bump .txFrames }) ∧
    (s.ctrl.en = true → s.txq.length ≠ s.params.txqDepth → s.txq ≠ [] →
      CommandRuns .cmdEnqueue 1#32 s
        { s with
          txq := s.txq ++ [{ seq := s.txSeq, marker := mk, wire := w }]
          txSeq := s.txSeq + 1, stage := [] })

/-- R279, R273, R274, R270, R278: a refused request sets the code 12 and CMD_ERR and does nothing else: ENQUEUE while
disabled or with a full queue, RX_POP of an empty FIFO, a TX_DATA write to a full stage, a reserved command. -/
def Obligations.RefusedRequestOnlyNotes : Prop :=
  ∀ (s : State) (v : Word),
    let t := { s with lastEvt := 12#4, irqPending := s.irqPending ||| 0x100#9 }
    (s.ctrl.en = false ∨ s.txq.length = s.params.txqDepth → CommandRuns .cmdEnqueue 1#32 s t) ∧
    (s.rxq = [] → CommandRuns .cmdRxPop 2#32 s t) ∧
    (s.stage.length = s.params.txPayloadMax → exec (.wrTxData v) s = .next t) ∧
    exec (.cmdReserved v) s = .next t ∧
    (6 ≤ v.toNat → exec (.wrCmd v) s = .next t)

/-- R272, R274, R275, R277: NOP does nothing; RX_POP releases the head message, and is refused when there is none;
TX_STAGE_CLR empties the stage; CNT_CLR clears the counters and the last event. -/
def Obligations.PlainCommandsDoOnlyTheirPart : Prop :=
  ∀ s : State,
    CommandRuns .cmdNop 0#32 s s ∧
    (∀ m r, s.rxq = m :: r → CommandRuns .cmdRxPop 2#32 s { s with rxq := r, rdPtr := 0 }) ∧
    (s.rxq = [] →
      CommandRuns .cmdRxPop 2#32 s { s with lastEvt := 12#4, irqPending := s.irqPending ||| 0x100#9 }) ∧
    CommandRuns .cmdTxStageClr 3#32 s { s with stage := [] } ∧
    ∃ z : Counters, (∀ c, z.get c = 0) ∧ CommandRuns .cmdCntClr 5#32 s { s with cnt := z, lastEvt := 0 }

/-- R276, R342: LINK_RESET puts the link state back and keeps configuration, interrupts, counters and records; it
emits nothing. -/
def Obligations.LinkResetClearsLinkState : Prop :=
  ∀ s : State,
    CommandRuns .cmdLinkReset 4#32 s
      { s with
        rxState := .idle, asm := [], last := none
        txq := [], tries := 0, elapsed := 0, txSeq := 1
        stage := [], rxq := [], rdPtr := 0 }

/-! ## Writes -/

/-- R262 to R265: a configuration write takes the register's field of the value, ignores the other bits, and
changes nothing else, whatever CTRL.EN is. -/
def Obligations.ConfigurationWriteSetsItsField : Prop :=
  ∀ (s : State) (v : Word),
    exec (.wrCtrl v) s = .next
      { s with
        ctrl := { en := v.getLsbD 0, txdir := v.getLsbD 1, acc11 := v.getLsbD 2, acc91 := v.getLsbD 3 } } ∧
    exec (.wrMaxTries v) s = .next { s with maxTries := BitVec.ofNat 8 (v.toNat % 256) } ∧
    exec (.wrTimeout v) s = .next { s with timeout := BitVec.ofNat 16 (v.toNat % 65536) } ∧
    exec (.wrTxSeq v) s = .next { s with txSeq := BitVec.ofNat 8 (v.toNat % 256) }

/-- R268: a write to IRQ_PENDING clears each pending bit written as 1 and leaves the others. -/
def Obligations.IrqPendingWriteClearsOnes : Prop :=
  ∀ (s : State) (v : Word),
    ∃ p : BitVec 9, exec (.wrIrqPending v) s = .next { s with irqPending := p } ∧
      ∀ i, i < 9 → p.getLsbD i = (s.irqPending.getLsbD i && !v.getLsbD i)

/-- R270: a TX_DATA write appends its low byte to a stage that has room, whatever CTRL.EN is, and is refused by a full
one. -/
def Obligations.DataWriteStagesOrIsRefused : Prop :=
  ∀ (s : State) (v : Word),
    (s.stage.length ≠ s.params.txPayloadMax →
      exec (.wrTxData v) s = .next { s with stage := s.stage ++ [BitVec.ofNat 8 (v.toNat % 256)] }) ∧
    (s.stage.length = s.params.txPayloadMax →
      exec (.wrTxData v) s = .next { s with lastEvt := 12#4, irqPending := s.irqPending ||| 0x100#9 })

/-- R269, R311: an IRQ_ENABLE write takes the nine low bits and changes nothing else; the interrupt output is asserted
exactly while a bit is both pending and enabled, so the write takes effect on it at once. -/
def Obligations.InterruptOutputIsLevel : Prop :=
  ∀ (s : State) (v : Word),
    let t := { s with irqEnable := BitVec.ofNat 9 (v.toNat % 512) }
    (s.irqOut = true ↔ ∃ i, s.irqPending.getLsbD i = true ∧ s.irqEnable.getLsbD i = true) ∧
    exec (.wrIrqEnable v) s = .next t ∧
    (t.irqOut = true ↔ ∃ i, s.irqPending.getLsbD i = true ∧ v.getLsbD i = true)

/-! ## Reads -/

/-- R47, R49 to R53, R59, R60: the registers that show one field. -/
def Obligations.FieldReadsAnswerTheField : Prop :=
  ∀ s : State,
    ReadAnswers .rdCtrl s
      (BitVec.ofNat 32 (s.ctrl.en.toNat + 2 * s.ctrl.txdir.toNat + 4 * s.ctrl.acc11.toNat + 8 * s.ctrl.acc91.toNat)) ∧
    ReadAnswers .rdMaxTries s (BitVec.ofNat 32 s.maxTries.toNat) ∧
    ReadAnswers .rdTimeout s (BitVec.ofNat 32 s.timeout.toNat) ∧
    ReadAnswers .rdTxSeq s (BitVec.ofNat 32 s.txSeq.toNat) ∧
    ReadAnswers .rdHeadTries s (BitVec.ofNat 32 s.tries.toNat) ∧
    ReadAnswers .rdHeadElapsed s (BitVec.ofNat 32 s.elapsed.toNat) ∧
    ReadAnswers .rdLastEvt s (BitVec.ofNat 32 s.lastEvt.toNat) ∧
    ReadAnswers .rdIrqPending s (BitVec.ofNat 32 s.irqPending.toNat) ∧
    ReadAnswers .rdIrqEnable s (BitVec.ofNat 32 s.irqEnable.toNat)

/-- R48: STATUS is read at offset 4, each field at its place, and a write to it is ignored. -/
def Obligations.StatusReadShowsLiveState : Prop :=
  ∀ s : State,
    (∀ v, exec (decodeEvent (.host (.write 0x04#8 4 v))) s = .next s) ∧
    decodeEvent (.host (.read 0x04#8 4)) = .rdStatus ∧
    ∃ w : Word, ReadAnswers .rdStatus s w ∧
      w.extractLsb' 0 3 = s.rxState.code ∧
      w.getLsbD 3 = s.last.isSome ∧
      w.getLsbD 4 = decide (s.txq.length > 0) ∧
      w.getLsbD 5 = decide (s.rxq.length > 0) ∧
      w.getLsbD 6 = decide (s.txq.length = s.params.txqDepth) ∧
      w.getLsbD 7 = decide (s.rxq.length = s.params.rxqDepth) ∧
      w.extractLsb' 8 8 = BitVec.ofNat 8 s.txq.length ∧
      w.extractLsb' 16 8 = BitVec.ofNat 8 s.rxq.length ∧
      w.getLsbD 24 = decide (s.stage.length = s.params.txPayloadMax) ∧
      w.extractLsb' 25 7 = 0#7

/-- R54, R56, R57, R61, R62, R267: the registers composed of several fields, each field at its place. The lengths are
those of R36, R41, R35 and R8, at most 65535 (counts: 255). -/
def Obligations.CompositeReadsShowTheirFields : Prop :=
  ∀ s : State,
    (s.last = none → ReadAnswers .rdLastAcc s 0) ∧
    (∀ l, s.last = some l → l.bytes.length ≤ 65535 →
      ReadAnswers .rdLastAcc s
        (BitVec.ofNat 32 (l.seq.toNat + 256 * l.marker.toNat + 65536 * l.bytes.length))) ∧
    (s.rxq = [] → ReadAnswers .rdRxInfo s 0) ∧
    (∀ m r, s.rxq = m :: r → m.payload.length ≤ 65535 →
      ReadAnswers .rdRxInfo s
        (BitVec.ofNat 32 (m.seq.toNat + 256 * m.marker.toNat + 65536 * m.payload.length))) ∧
    (s.stage.length ≤ 65535 → ReadAnswers .rdTxStageLen s (BitVec.ofNat 32 s.stage.length)) ∧
    (s.asm.length ≤ 65535 → ReadAnswers .rdRxAsmLen s (BitVec.ofNat 32 s.asm.length)) ∧
    (s.params.Legal →
      ReadAnswers .rdCap0 s (BitVec.ofNat 32 (65536 * s.params.txPayloadMax + s.params.rxbufMax)) ∧
      ReadAnswers .rdCap1 s (BitVec.ofNat 32 (256 * s.params.rxqDepth + s.params.txqDepth))) ∧
    ReadAnswers .rdCrcerrCrc s (BitVec.ofNat 32 (65536 * s.crcErr.recv.toNat + s.crcErr.comp.toNat)) ∧
    ReadAnswers .rdCrcerrHdr s
      (BitVec.ofNat 32 (65536 * s.crcErr.len.toNat + 256 * s.crcErr.type.toNat + s.crcErr.seq.toNat)) ∧
    ReadAnswers .rdDropInfo s
      (BitVec.ofNat 32 (65536 * s.dropInfo.cause.toNat + 256 * s.dropInfo.marker.toNat + s.dropInfo.seq.toNat))

/-- R266: RX_DATA answers the next payload byte of the head message with bit 31 set, and advances the index; with no
byte left it answers 0 and changes nothing. -/
def Obligations.RxDataReadReturnsNextByte : Prop :=
  ∀ s : State,
    (∀ (m : RxMsg) (r : List RxMsg) (h : s.rdPtr.toNat < m.payload.length), s.rxq = m :: r →
      exec .rdRxData s = .next
        { s with
          rdPtr := s.rdPtr + 1
          busOut := s.busOut ++ [.data (BitVec.ofNat 32 (0x80000000 + (m.payload[s.rdPtr.toNat]'h).toNat))] }) ∧
    (s.rxq = [] → ReadAnswers .rdRxData s 0) ∧
    (∀ m r, s.rxq = m :: r → m.payload.length ≤ s.rdPtr.toNat → ReadAnswers .rdRxData s 0)

/-- R58: each counter is read at its own register, and counting one counter adds one, up to 0xFFFFFFFF, and leaves the
fifteen others. -/
def Obligations.CountersSaturateAndReadBack : Prop :=
  (∀ (c : Counters) (i j : CounterId),
    ((c.bump i).get j).toNat = if j = i then min ((c.get j).toNat + 1) 4294967295 else (c.get j).toNat) ∧
  ∀ s : State,
    ReadAnswers .rdCntRxOk s s.cnt.rxOk ∧ ReadAnswers .rdCntRxDup s s.cnt.rxDup ∧
    ReadAnswers .rdCntRxConflict s s.cnt.rxConflict ∧ ReadAnswers .rdCntRxCrc s s.cnt.rxCrc ∧
    ReadAnswers .rdCntRxBadmarker s s.cnt.rxBadmarker ∧ ReadAnswers .rdCntRxBadesc s s.cnt.rxBadesc ∧
    ReadAnswers .rdCntRxStray s s.cnt.rxStray ∧ ReadAnswers .rdCntRxAbort s s.cnt.rxAbort ∧
    ReadAnswers .rdCntRxOverflow s s.cnt.rxOverflow ∧ ReadAnswers .rdCntRxOverrun s s.cnt.rxOverrun ∧
    ReadAnswers .rdCntAckRx s s.cnt.ackRx ∧ ReadAnswers .rdCntNakRx s s.cnt.nakRx ∧
    ReadAnswers .rdCntTxFrames s s.cnt.txFrames ∧ ReadAnswers .rdCntTxRetry s s.cnt.txRetry ∧
    ReadAnswers .rdCntTxDrop s s.cnt.txDrop ∧ ReadAnswers .rdCntTxAcked s s.cnt.txAcked

/-- R63, R55, R261: reserved offsets and the two write-only registers read 0, and a write to any offset but the eight
writable ones has no effect. -/
def Obligations.ReservedSpaceReadsZeroAndIgnoresWrites : Prop :=
  ∀ (s : State) (off : Offset) (v : Word),
    (ReadAnswers (.rdReserved058 off) s 0 ∧ ReadAnswers (.rdReserved060 off) s 0 ∧
      ReadAnswers (.rdReserved0C0 off) s 0 ∧ ReadAnswers .rdTxData s 0 ∧ ReadAnswers .rdCmd s 0) ∧
    exec (.wrIgnored off v) s = .next s ∧
    (off.toNat % 4 = 0 →
      (0x58 ≤ off.toNat ∧ off.toNat ≤ 0x7C ∨ 0xC0 ≤ off.toNat →
        ReadAnswers (decodeEvent (.host (.read off 4))) s 0) ∧
      (off ∉ [0x00#8, 0x08#8, 0x0C#8, 0x10#8, 0x20#8, 0x24#8, 0x40#8, 0x44#8] →
        decodeEvent (.host (.write off 4 v)) = .wrIgnored off v))

/-- R83: an access that is not an aligned word is answered by BusError and changes no state of the block. That the
answer is kept in a list is the model's choice (log entry 5). -/
def Obligations.UndefinedAccessIsBusError : Prop :=
  ∀ (s : State) (off : Offset) (n : Nat) (v : Word),
    exec (.hostBusError (.read off n)) s = .next { s with busOut := s.busOut ++ [.busError off n] } ∧
    exec (.hostBusError (.write off n v)) s = .next { s with busOut := s.busOut ++ [.busError off n] } ∧
    (n ≠ 4 ∨ off.toNat % 4 ≠ 0 →
      decodeEvent (.host (.read off n)) = .hostBusError (.read off n) ∧
      decodeEvent (.host (.write off n v)) = .hostBusError (.write off n v))

/-! ## Reset -/

/-- R340, R341: Reset puts every element of the state record to its reset value, in one event, from every state; what
was sent stays sent. The parameters and the events still to come are not state (log entry 12). -/
def Obligations.ResetEventRestoresEverything : Prop :=
  ∀ s : State,
    exec .evReset s = .next
      { rxState := .idle, asm := [], last := none, txq := [], tries := 0, elapsed := 0, txSeq := 1
        stage := [], rxq := [], rdPtr := 0
        ctrl := { en := false, txdir := false, acc11 := true, acc91 := true }
        maxTries := 3, timeout := s.params.timeoutReset, irqPending := 0, irqEnable := 0
        cnt :=
          { rxOk := 0, rxDup := 0, rxConflict := 0, rxCrc := 0, rxBadmarker := 0, rxBadesc := 0, rxStray := 0
            rxAbort := 0, rxOverflow := 0, rxOverrun := 0, ackRx := 0, nakRx := 0, txFrames := 0, txRetry := 0
            txDrop := 0, txAcked := 0 }
        lastEvt := 0
        crcErr := { recv := 0, comp := 0, seq := 0, type := 0, len := 0 }
        dropInfo := { seq := 0, marker := 0, cause := 0 }
        params := s.params, txOut := s.txOut, busOut := s.busOut, input := s.input }

/-- R340, second part: what every aligned read answers right after a Reset, under any legal parameters. -/
def Obligations.RegisterReadsAfterReset : Prop :=
  ∀ (p : Params) (off : Offset), p.Legal → off.toNat % 4 = 0 →
    ReadAnswers (decodeEvent (.host (.read off 4))) (State.resetWith p)
      (if off = 0x00#8 then 0x0000000C#32
        else if off = 0x08#8 then 3#32
        else if off = 0x0C#8 then BitVec.ofNat 32 p.timeoutReset.toNat
        else if off = 0x10#8 then 1#32
        else if off = 0x2C#8 then BitVec.ofNat 32 (65536 * p.txPayloadMax + p.rxbufMax)
        else if off = 0x30#8 then BitVec.ofNat 32 (256 * p.rxqDepth + p.txqDepth)
        else 0#32)

/-! ## The machine as a whole -/

/-- The reset state, under any legal parameters and with any events to come, keeps the invariants. -/
def Obligations.ResetStateKeepsInvariants : Prop :=
  ∀ (p : Params) (evs : List Event), p.Legal → ({ State.resetWith p with input := evs } : State).Inv

/-- Every step keeps the invariants of R35 to R38, R41, R42, R203, R230 and R300, from every state that has them. -/
def Obligations.StepKeepsInvariants : Prop :=
  ∀ s t : State, s.Inv → step s = .next t → t.Inv

/-- R302: the block never stops: from every state with the invariants a step answers a next state, whatever the
event. The one stop of any operation is the end marker on a buffer of fewer than the 2 bytes R200 asks for, which the
invariants rule out; that it stops there, with the fault asmTooShort, is the model's reading (DEDUCED, log entry 7). -/
def Obligations.StepNeverStops : Prop :=
  (∀ s : State, s.Inv → ∃ t, step s = .next t) ∧
  (∀ (i : Instr) (s : State),
    (∃ t, exec i s = .next t) ∨
      (s.asm.length < 2 ∧ exec i s = .fault .asmTooShort ∧ (i = .rxIfescEof ∨ i = .evRxByte 0xFF#8))) ∧
  (∀ s : State, s.asm.length < 2 → exec .rxIfescEof s = .fault .asmTooShort)

/-- R39, R341, R31: a step takes one event, only appends to the output stream and to the answers, and never changes a
parameter. -/
def Obligations.StepOnlyAppendsToOutputs : Prop :=
  ∀ s t : State, step s = .next t →
    (∃ bs, t.txOut = s.txOut ++ bs) ∧ (∃ ans, t.busOut = s.busOut ++ ans) ∧ t.params = s.params ∧
      t.input = s.input.tail

/-- R207: the end-of-frame check ends in Idle with an empty buffer. `last` changes only when an end marker completes a
new frame with a right CRC that the FIFO has room for, and then holds that whole frame; or it is cleared by LINK_RESET or
Reset. -/
def Obligations.LastFrameChangesOnlyByAcceptance : Prop :=
  (∀ s t : State, exec .rxIfescEof s = .next t → t.rxState = .idle ∧ t.asm = []) ∧
  ∀ s t : State, step s = .next t → t.last ≠ s.last →
    (∃ rest q m hi lo p, s.input = .rxByte 0xFF#8 :: rest ∧ ReceivesIn s .infoFrameEscape ∧
      s.asm = q :: m :: p ++ [hi, lo] ∧ crc16 (q :: m :: p) = hi ++ lo ∧ s.rxq.length ≠ s.params.rxqDepth ∧
      (∀ l, s.last = some l → l.seq ≠ q) ∧ t.last = some { seq := q, marker := m, body := p ++ [hi, lo] }) ∨
    (t.last = none ∧ ∃ rest, s.input = .host (.write 0x24#8 4 4#32) :: rest) ∨
    (t.last = none ∧ ∃ rest, s.input = .reset :: rest)

/-- R312: an interrupt cause sets its pending bit whatever is enabled, and leaves the others; a pending bit is cleared
only by a write of 1 to its place in IRQ_PENDING or by Reset. -/
def Obligations.PendingBitsAreSticky : Prop :=
  (∀ (s : State) (b : Fin 9) (i : Nat),
    (s.irq b).irqPending.getLsbD i = (decide (i = b.val) || s.irqPending.getLsbD i)) ∧
  ∀ (s t : State) (i : Nat), step s = .next t → s.irqPending.getLsbD i = true → t.irqPending.getLsbD i = false →
    (∃ rest, s.input = .reset :: rest) ∨
      ∃ v rest, s.input = .host (.write 0x40#8 4 v) :: rest ∧ v.getLsbD i = true

/-- R230, R89: whenever a step brings a new head into the queue, it transmits that head in the same event, with both
counters 0, and the new queue is the old one without its head, or one frame put into an empty queue. -/
def Obligations.NewHeadIsSentInSameEvent : Prop :=
  ∀ (s t : State) (g : TxFrame) (r : List TxFrame), step s = .next t → t.txq = g :: r → s.txq.head? ≠ some g →
    t.txOut = s.txOut ++ g.wire ∧ t.tries = 0 ∧ t.elapsed = 0 ∧
      ((s.txq = [] ∧ r = []) ∨ s.txq.tail = g :: r)

/-- R85, R260: every read completes with one answer and changes nothing else, but for a read of RX_DATA that returns a
byte, which advances the index. -/
def Obligations.ReadsHaveNoOtherEffect : Prop :=
  ∀ (s : State) (off : Offset) (n : Nat),
    ∃ a, exec (decodeEvent (.host (.read off n))) s = .next { s with busOut := s.busOut ++ [a] } ∨
      (off = 0x38#8 ∧ n = 4 ∧
        exec (decodeEvent (.host (.read off n))) s =
          .next { s with rdPtr := s.rdPtr + 1, busOut := s.busOut ++ [a] })

/-- R183: whether a start pair `10 00` begins a frame, from each of the seven states, EN = 1 and the invariants
holding. -/
def Obligations.StartPairResynchronises : Prop :=
  ∀ (s : State) (rest : List Event), s.Inv → s.ctrl.en = true →
    s.input = .rxByte 0x10#8 :: .rxByte 0x00#8 :: rest →
    ∃ t, RunsTo 2 s t ∧ t.input = rest ∧
      (s.rxState = .idle ∨ s.rxState = .seqNo ∨ s.rxState = .infoFrame → t.rxState = .seqNo ∧ t.asm = []) ∧
      (s.rxState = .idleEscape → t.rxState = .idle ∧ t.cnt = s.cnt.bump .rxStray ∧ t.txOut = s.txOut) ∧
      (s.rxState = .seqNoEscape →
        t.rxState = .idle ∧ t.cnt = s.cnt.bump .rxBadmarker ∧ t.txOut = s.txOut ++ [0x10#8, 0x12#8]) ∧
      (s.rxState = .type →
        t.rxState = .idle ∧ t.cnt = (s.cnt.bump .rxBadmarker).bump .rxStray ∧
          t.txOut = s.txOut ++ [0x10#8, 0x12#8]) ∧
      (s.rxState = .infoFrameEscape → s.asm.length + 2 ≤ s.params.rxbufMax →
        t.rxState = .infoFrame ∧ t.asm = s.asm ++ [0x10#8, 0x00#8] ∧ t.txOut = s.txOut)

/-- R138: a frame fed byte by byte to an idle receiver that knows its marker, has room, and last accepted another
sequence number, is answered by exactly `10 11` and delivered as it was sent, whatever bytes its payload holds. -/
def Obligations.SentFrameIsDelivered : Prop :=
  ∀ (s : State) (q m : Byte) (p : List Byte) (rest : List Event),
    ReceivesIn s .idle → s.markers.known m = true → (∀ l, s.last = some l → l.seq ≠ q) →
    s.rxq.length ≠ s.params.rxqDepth → p.length + 4 ≤ s.params.rxbufMax →
    s.input = (wrap q m p).map .rxByte ++ rest →
    RunsTo (wrap q m p).length s
      { s with
        asm := [], input := rest
        txOut := s.txOut ++ [0x10#8, 0x11#8]
        last := some { seq := q, marker := m, body := p ++ crcBytes (q :: m :: p) }
        rxq := s.rxq ++ [{ seq := q, marker := m, payload := p }]
        cnt := s.cnt.bump .rxOk
        irqPending := s.irqPending ||| 0x001#9 }

/-- R203, R205 (the source's duplicate suppression): the same frame fed twice in a row is ACKed twice and delivered
once. -/
def Obligations.RepeatedFrameIsDeliveredOnce : Prop :=
  ∀ (s : State) (q m : Byte) (p : List Byte) (rest : List Event),
    ReceivesIn s .idle → s.markers.known m = true → (∀ l, s.last = some l → l.seq ≠ q) →
    s.rxq.length ≠ s.params.rxqDepth → p.length + 4 ≤ s.params.rxbufMax →
    s.input = (wrap q m p ++ wrap q m p).map .rxByte ++ rest →
    RunsTo (2 * (wrap q m p).length) s
      { s with
        asm := [], input := rest
        txOut := s.txOut ++ [0x10#8, 0x11#8, 0x10#8, 0x11#8]
        last := some { seq := q, marker := m, body := p ++ crcBytes (q :: m :: p) }
        rxq := s.rxq ++ [{ seq := q, marker := m, payload := p }]
        cnt := (s.cnt.bump .rxOk).bump .rxDup
        lastEvt := 6#4
        irqPending := s.irqPending ||| 0x011#9 }

/-- R229: the retry timeline of a head that no ACK or NAK answers, with T = TIMEOUT and M = MAX_TRIES: k
retransmissions after k(T+1) ticks for k up to M+1, the drop at (M+2)(T+1), and the next frame sent in that same
event. -/
def Obligations.RetryTimeline : Prop :=
  ∀ (s : State) (f : TxFrame) (r : List TxFrame) (rest : List Event),
    s.ctrl.en = true → s.txq = f :: r → s.tries = 0 → s.elapsed = 0 →
    let T := s.timeout.toNat
    let M := s.maxTries.toNat
    (∀ k j, k ≤ M + 1 → j ≤ T → s.input = List.replicate (k * (T + 1) + j) .tick ++ rest →
      ∃ t, RunsTo (k * (T + 1) + j) s t ∧ t.input = rest ∧ t.txq = f :: r ∧ t.tries.toNat = k ∧
        t.elapsed.toNat = j ∧ t.txOut = s.txOut ++ (List.replicate k f.wire).flatten) ∧
    (s.input = List.replicate ((M + 2) * (T + 1)) .tick ++ rest →
      ∃ t, RunsTo ((M + 2) * (T + 1)) s t ∧ t.input = rest ∧ t.txq = r ∧ t.tries = 0 ∧ t.elapsed = 0 ∧
        t.dropInfo = { seq := f.seq, marker := f.marker, cause := 0#1 } ∧ t.lastEvt = 10#4 ∧
        t.txOut = s.txOut ++ (List.replicate (M + 1) f.wire).flatten ++ (r.head?.map (·.wire)).getD [])

/-- R361: with EN = 1 and ticks arriving, the head leaves the queue within (MAX_TRIES + 2)(TIMEOUT + 1) ticks, from
every state with the invariants. -/
def Obligations.HeadLeavesInBoundedTicks : Prop :=
  ∀ (s : State) (f : TxFrame) (r : List TxFrame) (rest : List Event),
    s.Inv → s.ctrl.en = true → s.txq = f :: r →
    s.input = List.replicate ((s.maxTries.toNat + 2) * (s.timeout.toNat + 1)) .tick ++ rest →
    ∃ n t, n ≤ (s.maxTries.toNat + 2) * (s.timeout.toNat + 1) ∧ RunsTo n s t ∧ t.txq = r
end

