-- ==== Sys2Proof/Laws/Codec.lean ====
section
/-! SUPPORT. The frame codec's small lemmas (R130 to R136). -/

namespace Sys2Proof.Machine

@[simp] theorem crc16_nil : crc16 [] = 0 := rfl

theorem crc16_snoc (bs : List Byte) (b : Byte) : crc16 (bs ++ [b]) = crcStep (crc16 bs) b := by
  simp [crc16]

theorem crcBytes_length (bs : List Byte) : (crcBytes bs).length = 2 := rfl

@[simp] theorem stuff_nil : stuff [] = [] := rfl

@[simp] theorem stuff_esc (bs : List Byte) : stuff (Wire.esc :: bs) = Wire.esc :: Wire.esc :: stuff bs := by
  simp [stuff]

theorem stuff_plain (b : Byte) (bs : List Byte) (h : b ≠ Wire.esc) : stuff (b :: bs) = b :: stuff bs := by
  simp [stuff, h]

theorem stuff_append (xs ys : List Byte) : stuff (xs ++ ys) = stuff xs ++ stuff ys := by
  induction xs with
  | nil => rfl
  | cons b bs ih =>
    by_cases h : b = Wire.esc
    · subst h; simp [ih]
    · simp [stuff_plain _ _ h, ih]

theorem stuff_length (xs : List Byte) : (stuff xs).length = xs.length + xs.count Wire.esc := by
  induction xs with
  | nil => rfl
  | cons b bs ih =>
    by_cases h : b = Wire.esc
    · subst h; simp [ih]; omega
    · rw [stuff_plain _ _ h, List.count_cons_of_ne h]; simp [ih]; omega

theorem terminate_of_terminated (p : List Byte) (h : p.getLast? = some Wire.lf) : terminate p = p := by
  rw [terminate, if_pos h]

theorem terminate_of_unterminated (p : List Byte) (h : p.getLast? ≠ some Wire.lf) :
    terminate p = p ++ [Wire.lf] := by
  rw [terminate, if_neg h]

theorem terminate_length (p : List Byte) :
    1 ≤ (terminate p).length ∧ p.length ≤ (terminate p).length ∧ (terminate p).length ≤ p.length + 1 := by
  unfold terminate
  split
  · next h => cases p with
    | nil => simp at h
    | cons => simp
  · simp

theorem logicalFrame_eq (q m : Byte) (p : List Byte) :
    logicalFrame q m p = q :: m :: (p ++ crcBytes (q :: m :: p)) := rfl

theorem logicalFrame_length (q m : Byte) (p : List Byte) : (logicalFrame q m p).length = p.length + 4 := by
  simp [logicalFrame_eq, crcBytes_length]

/-- The covered bytes of a logical frame are the frame without its CRC (R137). -/
theorem crcCovered_logicalFrame (q m : Byte) (p : List Byte) :
    crcCovered (logicalFrame q m p) = q :: m :: p := by
  have h : (logicalFrame q m p).length - 2 = (q :: m :: p).length := by
    rw [logicalFrame_length]; simp
  rw [crcCovered, h]
  simp [logicalFrame]

theorem high_append_low (v : BitVec 16) : v.extractLsb' 8 8 ++ v.extractLsb' 0 8 = v := by
  apply BitVec.eq_of_getLsbD_eq
  intro i hi
  rw [BitVec.getLsbD_append]
  split
  · next h => simp [h]
  · next h =>
    have h1 : i - 8 < 8 := by omega
    have h2 : 8 + (i - 8) = i := by omega
    simp [h1, h2]

/-- The CRC a logical frame carries is the one computed (R131). -/
theorem crcField_logicalFrame (q m : Byte) (p : List Byte) :
    crcField (logicalFrame q m p) = crc16 (q :: m :: p) := by
  have hl : (logicalFrame q m p).length = p.length + 4 := logicalFrame_length q m p
  unfold crcField
  rw [hl]
  have e : logicalFrame q m p = (q :: m :: p) ++ crcBytes (q :: m :: p) := rfl
  have h1 : (logicalFrame q m p).getD (p.length + 4 - 2) 0 = (crc16 (q :: m :: p)).extractLsb' 8 8 := by
    rw [e, List.getD_eq_getElem?_getD, List.getElem?_append_right (by simp)]
    simp [crcBytes]
  have h2 : (logicalFrame q m p).getD (p.length + 4 - 1) 0 = (crc16 (q :: m :: p)).extractLsb' 0 8 := by
    rw [e, List.getD_eq_getElem?_getD, List.getElem?_append_right (by simp)]
    simp [crcBytes]
  rw [h1, h2]
  exact high_append_low _

theorem payloadOf_logicalFrame (q m : Byte) (p : List Byte) : payloadOf (logicalFrame q m p) = p := by
  simp [payloadOf, crcCovered_logicalFrame]

theorem wrap_eq (q m : Byte) (p : List Byte) :
    wrap q m p = Wire.esc :: Wire.sof :: (stuff (logicalFrame q m p) ++ [Wire.esc, Wire.eof]) := by
  simp [wrap]

end Sys2Proof.Machine
end

