-- ==== Sys2Proof/Laws/Counters.lean ====
section
/-! SUPPORT. The counters (R58): reading after counting. -/

namespace Sys2Proof.Machine

theorem Counters.get_bump_same (c : Counters) (i : CounterId) : (c.bump i).get i = satSucc (c.get i) := by
  cases i <;> rfl

theorem Counters.get_bump_other (c : Counters) (i j : CounterId) (h : j ≠ i) : (c.bump i).get j = c.get j := by
  cases i <;> cases j <;> first | rfl | exact absurd rfl h

theorem Counters.get_zero (i : CounterId) : Counters.zero.get i = 0 := by
  cases i <;> rfl

theorem satSucc_max : satSucc 0xFFFFFFFF = 0xFFFFFFFF := rfl

theorem satSucc_toNat (v : Word) : (satSucc v).toNat = min (v.toNat + 1) 0xFFFFFFFF := by
  unfold satSucc
  split
  · next h => subst h; rfl
  · next h =>
    have : v.toNat ≠ 0xFFFFFFFF := fun e => h (BitVec.eq_of_toNat_eq e)
    have := v.isLt
    have h1 : (v + 1).toNat = v.toNat + 1 := by
      rw [BitVec.toNat_add]; show (v.toNat + 1) % 2 ^ 32 = _; omega
    omega

end Sys2Proof.Machine
end

