-- ==== Sys2Proof/Laws/State.lean ====
section
/-! SUPPORT. What the primitive updates leave in each field of State: one lemma per field per update. -/

namespace Sys2Proof.Machine

/-! ### emit -/

@[simp] theorem State.emit_rxState (s : State) (bs : List Byte) : (s.emit bs).rxState = s.rxState := rfl
@[simp] theorem State.emit_asm (s : State) (bs : List Byte) : (s.emit bs).asm = s.asm := rfl
@[simp] theorem State.emit_last (s : State) (bs : List Byte) : (s.emit bs).last = s.last := rfl
@[simp] theorem State.emit_txq (s : State) (bs : List Byte) : (s.emit bs).txq = s.txq := rfl
@[simp] theorem State.emit_tries (s : State) (bs : List Byte) : (s.emit bs).tries = s.tries := rfl
@[simp] theorem State.emit_elapsed (s : State) (bs : List Byte) : (s.emit bs).elapsed = s.elapsed := rfl
@[simp] theorem State.emit_txSeq (s : State) (bs : List Byte) : (s.emit bs).txSeq = s.txSeq := rfl
@[simp] theorem State.emit_stage (s : State) (bs : List Byte) : (s.emit bs).stage = s.stage := rfl
@[simp] theorem State.emit_rxq (s : State) (bs : List Byte) : (s.emit bs).rxq = s.rxq := rfl
@[simp] theorem State.emit_rdPtr (s : State) (bs : List Byte) : (s.emit bs).rdPtr = s.rdPtr := rfl
@[simp] theorem State.emit_ctrl (s : State) (bs : List Byte) : (s.emit bs).ctrl = s.ctrl := rfl
@[simp] theorem State.emit_maxTries (s : State) (bs : List Byte) : (s.emit bs).maxTries = s.maxTries := rfl
@[simp] theorem State.emit_timeout (s : State) (bs : List Byte) : (s.emit bs).timeout = s.timeout := rfl
@[simp] theorem State.emit_irqPending (s : State) (bs : List Byte) : (s.emit bs).irqPending = s.irqPending := rfl
@[simp] theorem State.emit_irqEnable (s : State) (bs : List Byte) : (s.emit bs).irqEnable = s.irqEnable := rfl
@[simp] theorem State.emit_cnt (s : State) (bs : List Byte) : (s.emit bs).cnt = s.cnt := rfl
@[simp] theorem State.emit_lastEvt (s : State) (bs : List Byte) : (s.emit bs).lastEvt = s.lastEvt := rfl
@[simp] theorem State.emit_crcErr (s : State) (bs : List Byte) : (s.emit bs).crcErr = s.crcErr := rfl
@[simp] theorem State.emit_dropInfo (s : State) (bs : List Byte) : (s.emit bs).dropInfo = s.dropInfo := rfl
@[simp] theorem State.emit_params (s : State) (bs : List Byte) : (s.emit bs).params = s.params := rfl
@[simp] theorem State.emit_txOut (s : State) (bs : List Byte) : (s.emit bs).txOut = s.txOut ++ bs := rfl
@[simp] theorem State.emit_busOut (s : State) (bs : List Byte) : (s.emit bs).busOut = s.busOut := rfl
@[simp] theorem State.emit_input (s : State) (bs : List Byte) : (s.emit bs).input = s.input := rfl

/-! ### answer -/

@[simp] theorem State.answer_rxState (s : State) (a : BusAnswer) : (s.answer a).rxState = s.rxState := rfl
@[simp] theorem State.answer_asm (s : State) (a : BusAnswer) : (s.answer a).asm = s.asm := rfl
@[simp] theorem State.answer_last (s : State) (a : BusAnswer) : (s.answer a).last = s.last := rfl
@[simp] theorem State.answer_txq (s : State) (a : BusAnswer) : (s.answer a).txq = s.txq := rfl
@[simp] theorem State.answer_tries (s : State) (a : BusAnswer) : (s.answer a).tries = s.tries := rfl
@[simp] theorem State.answer_elapsed (s : State) (a : BusAnswer) : (s.answer a).elapsed = s.elapsed := rfl
@[simp] theorem State.answer_txSeq (s : State) (a : BusAnswer) : (s.answer a).txSeq = s.txSeq := rfl
@[simp] theorem State.answer_stage (s : State) (a : BusAnswer) : (s.answer a).stage = s.stage := rfl
@[simp] theorem State.answer_rxq (s : State) (a : BusAnswer) : (s.answer a).rxq = s.rxq := rfl
@[simp] theorem State.answer_rdPtr (s : State) (a : BusAnswer) : (s.answer a).rdPtr = s.rdPtr := rfl
@[simp] theorem State.answer_ctrl (s : State) (a : BusAnswer) : (s.answer a).ctrl = s.ctrl := rfl
@[simp] theorem State.answer_maxTries (s : State) (a : BusAnswer) : (s.answer a).maxTries = s.maxTries := rfl
@[simp] theorem State.answer_timeout (s : State) (a : BusAnswer) : (s.answer a).timeout = s.timeout := rfl
@[simp] theorem State.answer_irqPending (s : State) (a : BusAnswer) : (s.answer a).irqPending = s.irqPending := rfl
@[simp] theorem State.answer_irqEnable (s : State) (a : BusAnswer) : (s.answer a).irqEnable = s.irqEnable := rfl
@[simp] theorem State.answer_cnt (s : State) (a : BusAnswer) : (s.answer a).cnt = s.cnt := rfl
@[simp] theorem State.answer_lastEvt (s : State) (a : BusAnswer) : (s.answer a).lastEvt = s.lastEvt := rfl
@[simp] theorem State.answer_crcErr (s : State) (a : BusAnswer) : (s.answer a).crcErr = s.crcErr := rfl
@[simp] theorem State.answer_dropInfo (s : State) (a : BusAnswer) : (s.answer a).dropInfo = s.dropInfo := rfl
@[simp] theorem State.answer_params (s : State) (a : BusAnswer) : (s.answer a).params = s.params := rfl
@[simp] theorem State.answer_txOut (s : State) (a : BusAnswer) : (s.answer a).txOut = s.txOut := rfl
@[simp] theorem State.answer_busOut (s : State) (a : BusAnswer) : (s.answer a).busOut = s.busOut ++ [a] := rfl
@[simp] theorem State.answer_input (s : State) (a : BusAnswer) : (s.answer a).input = s.input := rfl

/-! ### count -/

@[simp] theorem State.count_rxState (s : State) (c : CounterId) : (s.count c).rxState = s.rxState := rfl
@[simp] theorem State.count_asm (s : State) (c : CounterId) : (s.count c).asm = s.asm := rfl
@[simp] theorem State.count_last (s : State) (c : CounterId) : (s.count c).last = s.last := rfl
@[simp] theorem State.count_txq (s : State) (c : CounterId) : (s.count c).txq = s.txq := rfl
@[simp] theorem State.count_tries (s : State) (c : CounterId) : (s.count c).tries = s.tries := rfl
@[simp] theorem State.count_elapsed (s : State) (c : CounterId) : (s.count c).elapsed = s.elapsed := rfl
@[simp] theorem State.count_txSeq (s : State) (c : CounterId) : (s.count c).txSeq = s.txSeq := rfl
@[simp] theorem State.count_stage (s : State) (c : CounterId) : (s.count c).stage = s.stage := rfl
@[simp] theorem State.count_rxq (s : State) (c : CounterId) : (s.count c).rxq = s.rxq := rfl
@[simp] theorem State.count_rdPtr (s : State) (c : CounterId) : (s.count c).rdPtr = s.rdPtr := rfl
@[simp] theorem State.count_ctrl (s : State) (c : CounterId) : (s.count c).ctrl = s.ctrl := rfl
@[simp] theorem State.count_maxTries (s : State) (c : CounterId) : (s.count c).maxTries = s.maxTries := rfl
@[simp] theorem State.count_timeout (s : State) (c : CounterId) : (s.count c).timeout = s.timeout := rfl
@[simp] theorem State.count_irqPending (s : State) (c : CounterId) : (s.count c).irqPending = s.irqPending := rfl
@[simp] theorem State.count_irqEnable (s : State) (c : CounterId) : (s.count c).irqEnable = s.irqEnable := rfl
@[simp] theorem State.count_cnt (s : State) (c : CounterId) : (s.count c).cnt = s.cnt.bump c := rfl
@[simp] theorem State.count_lastEvt (s : State) (c : CounterId) : (s.count c).lastEvt = s.lastEvt := rfl
@[simp] theorem State.count_crcErr (s : State) (c : CounterId) : (s.count c).crcErr = s.crcErr := rfl
@[simp] theorem State.count_dropInfo (s : State) (c : CounterId) : (s.count c).dropInfo = s.dropInfo := rfl
@[simp] theorem State.count_params (s : State) (c : CounterId) : (s.count c).params = s.params := rfl
@[simp] theorem State.count_txOut (s : State) (c : CounterId) : (s.count c).txOut = s.txOut := rfl
@[simp] theorem State.count_busOut (s : State) (c : CounterId) : (s.count c).busOut = s.busOut := rfl
@[simp] theorem State.count_input (s : State) (c : CounterId) : (s.count c).input = s.input := rfl

/-! ### note -/

@[simp] theorem State.note_rxState (s : State) (k : BitVec 4) : (s.note k).rxState = s.rxState := rfl
@[simp] theorem State.note_asm (s : State) (k : BitVec 4) : (s.note k).asm = s.asm := rfl
@[simp] theorem State.note_last (s : State) (k : BitVec 4) : (s.note k).last = s.last := rfl
@[simp] theorem State.note_txq (s : State) (k : BitVec 4) : (s.note k).txq = s.txq := rfl
@[simp] theorem State.note_tries (s : State) (k : BitVec 4) : (s.note k).tries = s.tries := rfl
@[simp] theorem State.note_elapsed (s : State) (k : BitVec 4) : (s.note k).elapsed = s.elapsed := rfl
@[simp] theorem State.note_txSeq (s : State) (k : BitVec 4) : (s.note k).txSeq = s.txSeq := rfl
@[simp] theorem State.note_stage (s : State) (k : BitVec 4) : (s.note k).stage = s.stage := rfl
@[simp] theorem State.note_rxq (s : State) (k : BitVec 4) : (s.note k).rxq = s.rxq := rfl
@[simp] theorem State.note_rdPtr (s : State) (k : BitVec 4) : (s.note k).rdPtr = s.rdPtr := rfl
@[simp] theorem State.note_ctrl (s : State) (k : BitVec 4) : (s.note k).ctrl = s.ctrl := rfl
@[simp] theorem State.note_maxTries (s : State) (k : BitVec 4) : (s.note k).maxTries = s.maxTries := rfl
@[simp] theorem State.note_timeout (s : State) (k : BitVec 4) : (s.note k).timeout = s.timeout := rfl
@[simp] theorem State.note_irqPending (s : State) (k : BitVec 4) : (s.note k).irqPending = s.irqPending := rfl
@[simp] theorem State.note_irqEnable (s : State) (k : BitVec 4) : (s.note k).irqEnable = s.irqEnable := rfl
@[simp] theorem State.note_cnt (s : State) (k : BitVec 4) : (s.note k).cnt = s.cnt := rfl
@[simp] theorem State.note_lastEvt (s : State) (k : BitVec 4) : (s.note k).lastEvt = k := rfl
@[simp] theorem State.note_crcErr (s : State) (k : BitVec 4) : (s.note k).crcErr = s.crcErr := rfl
@[simp] theorem State.note_dropInfo (s : State) (k : BitVec 4) : (s.note k).dropInfo = s.dropInfo := rfl
@[simp] theorem State.note_params (s : State) (k : BitVec 4) : (s.note k).params = s.params := rfl
@[simp] theorem State.note_txOut (s : State) (k : BitVec 4) : (s.note k).txOut = s.txOut := rfl
@[simp] theorem State.note_busOut (s : State) (k : BitVec 4) : (s.note k).busOut = s.busOut := rfl
@[simp] theorem State.note_input (s : State) (k : BitVec 4) : (s.note k).input = s.input := rfl

/-! ### irq -/

@[simp] theorem State.irq_rxState (s : State) (b : Fin 9) : (s.irq b).rxState = s.rxState := rfl
@[simp] theorem State.irq_asm (s : State) (b : Fin 9) : (s.irq b).asm = s.asm := rfl
@[simp] theorem State.irq_last (s : State) (b : Fin 9) : (s.irq b).last = s.last := rfl
@[simp] theorem State.irq_txq (s : State) (b : Fin 9) : (s.irq b).txq = s.txq := rfl
@[simp] theorem State.irq_tries (s : State) (b : Fin 9) : (s.irq b).tries = s.tries := rfl
@[simp] theorem State.irq_elapsed (s : State) (b : Fin 9) : (s.irq b).elapsed = s.elapsed := rfl
@[simp] theorem State.irq_txSeq (s : State) (b : Fin 9) : (s.irq b).txSeq = s.txSeq := rfl
@[simp] theorem State.irq_stage (s : State) (b : Fin 9) : (s.irq b).stage = s.stage := rfl
@[simp] theorem State.irq_rxq (s : State) (b : Fin 9) : (s.irq b).rxq = s.rxq := rfl
@[simp] theorem State.irq_rdPtr (s : State) (b : Fin 9) : (s.irq b).rdPtr = s.rdPtr := rfl
@[simp] theorem State.irq_ctrl (s : State) (b : Fin 9) : (s.irq b).ctrl = s.ctrl := rfl
@[simp] theorem State.irq_maxTries (s : State) (b : Fin 9) : (s.irq b).maxTries = s.maxTries := rfl
@[simp] theorem State.irq_timeout (s : State) (b : Fin 9) : (s.irq b).timeout = s.timeout := rfl
@[simp] theorem State.irq_irqPending (s : State) (b : Fin 9) : (s.irq b).irqPending = s.irqPending ||| (1#9 <<< b.val) := rfl
@[simp] theorem State.irq_irqEnable (s : State) (b : Fin 9) : (s.irq b).irqEnable = s.irqEnable := rfl
@[simp] theorem State.irq_cnt (s : State) (b : Fin 9) : (s.irq b).cnt = s.cnt := rfl
@[simp] theorem State.irq_lastEvt (s : State) (b : Fin 9) : (s.irq b).lastEvt = s.lastEvt := rfl
@[simp] theorem State.irq_crcErr (s : State) (b : Fin 9) : (s.irq b).crcErr = s.crcErr := rfl
@[simp] theorem State.irq_dropInfo (s : State) (b : Fin 9) : (s.irq b).dropInfo = s.dropInfo := rfl
@[simp] theorem State.irq_params (s : State) (b : Fin 9) : (s.irq b).params = s.params := rfl
@[simp] theorem State.irq_txOut (s : State) (b : Fin 9) : (s.irq b).txOut = s.txOut := rfl
@[simp] theorem State.irq_busOut (s : State) (b : Fin 9) : (s.irq b).busOut = s.busOut := rfl
@[simp] theorem State.irq_input (s : State) (b : Fin 9) : (s.irq b).input = s.input := rfl

/-! ### anomaly -/

@[simp] theorem State.anomaly_rxState (s : State) (c : CounterId) (k : BitVec 4) (b : Fin 9) : (s.anomaly c k b).rxState = s.rxState := rfl
@[simp] theorem State.anomaly_asm (s : State) (c : CounterId) (k : BitVec 4) (b : Fin 9) : (s.anomaly c k b).asm = s.asm := rfl
@[simp] theorem State.anomaly_last (s : State) (c : CounterId) (k : BitVec 4) (b : Fin 9) : (s.anomaly c k b).last = s.last := rfl
@[simp] theorem State.anomaly_txq (s : State) (c : CounterId) (k : BitVec 4) (b : Fin 9) : (s.anomaly c k b).txq = s.txq := rfl
@[simp] theorem State.anomaly_tries (s : State) (c : CounterId) (k : BitVec 4) (b : Fin 9) : (s.anomaly c k b).tries = s.tries := rfl
@[simp] theorem State.anomaly_elapsed (s : State) (c : CounterId) (k : BitVec 4) (b : Fin 9) : (s.anomaly c k b).elapsed = s.elapsed := rfl
@[simp] theorem State.anomaly_txSeq (s : State) (c : CounterId) (k : BitVec 4) (b : Fin 9) : (s.anomaly c k b).txSeq = s.txSeq := rfl
@[simp] theorem State.anomaly_stage (s : State) (c : CounterId) (k : BitVec 4) (b : Fin 9) : (s.anomaly c k b).stage = s.stage := rfl
@[simp] theorem State.anomaly_rxq (s : State) (c : CounterId) (k : BitVec 4) (b : Fin 9) : (s.anomaly c k b).rxq = s.rxq := rfl
@[simp] theorem State.anomaly_rdPtr (s : State) (c : CounterId) (k : BitVec 4) (b : Fin 9) : (s.anomaly c k b).rdPtr = s.rdPtr := rfl
@[simp] theorem State.anomaly_ctrl (s : State) (c : CounterId) (k : BitVec 4) (b : Fin 9) : (s.anomaly c k b).ctrl = s.ctrl := rfl
@[simp] theorem State.anomaly_maxTries (s : State) (c : CounterId) (k : BitVec 4) (b : Fin 9) : (s.anomaly c k b).maxTries = s.maxTries := rfl
@[simp] theorem State.anomaly_timeout (s : State) (c : CounterId) (k : BitVec 4) (b : Fin 9) : (s.anomaly c k b).timeout = s.timeout := rfl
@[simp] theorem State.anomaly_irqPending (s : State) (c : CounterId) (k : BitVec 4) (b : Fin 9) : (s.anomaly c k b).irqPending = s.irqPending ||| (1#9 <<< b.val) := rfl
@[simp] theorem State.anomaly_irqEnable (s : State) (c : CounterId) (k : BitVec 4) (b : Fin 9) : (s.anomaly c k b).irqEnable = s.irqEnable := rfl
@[simp] theorem State.anomaly_cnt (s : State) (c : CounterId) (k : BitVec 4) (b : Fin 9) : (s.anomaly c k b).cnt = s.cnt.bump c := rfl
@[simp] theorem State.anomaly_lastEvt (s : State) (c : CounterId) (k : BitVec 4) (b : Fin 9) : (s.anomaly c k b).lastEvt = k := rfl
@[simp] theorem State.anomaly_crcErr (s : State) (c : CounterId) (k : BitVec 4) (b : Fin 9) : (s.anomaly c k b).crcErr = s.crcErr := rfl
@[simp] theorem State.anomaly_dropInfo (s : State) (c : CounterId) (k : BitVec 4) (b : Fin 9) : (s.anomaly c k b).dropInfo = s.dropInfo := rfl
@[simp] theorem State.anomaly_params (s : State) (c : CounterId) (k : BitVec 4) (b : Fin 9) : (s.anomaly c k b).params = s.params := rfl
@[simp] theorem State.anomaly_txOut (s : State) (c : CounterId) (k : BitVec 4) (b : Fin 9) : (s.anomaly c k b).txOut = s.txOut := rfl
@[simp] theorem State.anomaly_busOut (s : State) (c : CounterId) (k : BitVec 4) (b : Fin 9) : (s.anomaly c k b).busOut = s.busOut := rfl
@[simp] theorem State.anomaly_input (s : State) (c : CounterId) (k : BitVec 4) (b : Fin 9) : (s.anomaly c k b).input = s.input := rfl

/-! ### reject -/

@[simp] theorem State.reject_rxState (s : State) : s.reject.rxState = s.rxState := rfl
@[simp] theorem State.reject_asm (s : State) : s.reject.asm = s.asm := rfl
@[simp] theorem State.reject_last (s : State) : s.reject.last = s.last := rfl
@[simp] theorem State.reject_txq (s : State) : s.reject.txq = s.txq := rfl
@[simp] theorem State.reject_tries (s : State) : s.reject.tries = s.tries := rfl
@[simp] theorem State.reject_elapsed (s : State) : s.reject.elapsed = s.elapsed := rfl
@[simp] theorem State.reject_txSeq (s : State) : s.reject.txSeq = s.txSeq := rfl
@[simp] theorem State.reject_stage (s : State) : s.reject.stage = s.stage := rfl
@[simp] theorem State.reject_rxq (s : State) : s.reject.rxq = s.rxq := rfl
@[simp] theorem State.reject_rdPtr (s : State) : s.reject.rdPtr = s.rdPtr := rfl
@[simp] theorem State.reject_ctrl (s : State) : s.reject.ctrl = s.ctrl := rfl
@[simp] theorem State.reject_maxTries (s : State) : s.reject.maxTries = s.maxTries := rfl
@[simp] theorem State.reject_timeout (s : State) : s.reject.timeout = s.timeout := rfl
@[simp] theorem State.reject_irqPending (s : State) : s.reject.irqPending = s.irqPending ||| (1#9 <<< Irq.cmdErr.val) := rfl
@[simp] theorem State.reject_irqEnable (s : State) : s.reject.irqEnable = s.irqEnable := rfl
@[simp] theorem State.reject_cnt (s : State) : s.reject.cnt = s.cnt := rfl
@[simp] theorem State.reject_lastEvt (s : State) : s.reject.lastEvt = Evt.cmdReject := rfl
@[simp] theorem State.reject_crcErr (s : State) : s.reject.crcErr = s.crcErr := rfl
@[simp] theorem State.reject_dropInfo (s : State) : s.reject.dropInfo = s.dropInfo := rfl
@[simp] theorem State.reject_params (s : State) : s.reject.params = s.params := rfl
@[simp] theorem State.reject_txOut (s : State) : s.reject.txOut = s.txOut := rfl
@[simp] theorem State.reject_busOut (s : State) : s.reject.busOut = s.busOut := rfl
@[simp] theorem State.reject_input (s : State) : s.reject.input = s.input := rfl

/-! ### goto -/

@[simp] theorem State.goto_rxState (s : State) (st : RxState) : (s.goto st).rxState = st := rfl
@[simp] theorem State.goto_asm (s : State) (st : RxState) : (s.goto st).asm = if st = .idle then [] else s.asm := rfl
@[simp] theorem State.goto_last (s : State) (st : RxState) : (s.goto st).last = s.last := rfl
@[simp] theorem State.goto_txq (s : State) (st : RxState) : (s.goto st).txq = s.txq := rfl
@[simp] theorem State.goto_tries (s : State) (st : RxState) : (s.goto st).tries = s.tries := rfl
@[simp] theorem State.goto_elapsed (s : State) (st : RxState) : (s.goto st).elapsed = s.elapsed := rfl
@[simp] theorem State.goto_txSeq (s : State) (st : RxState) : (s.goto st).txSeq = s.txSeq := rfl
@[simp] theorem State.goto_stage (s : State) (st : RxState) : (s.goto st).stage = s.stage := rfl
@[simp] theorem State.goto_rxq (s : State) (st : RxState) : (s.goto st).rxq = s.rxq := rfl
@[simp] theorem State.goto_rdPtr (s : State) (st : RxState) : (s.goto st).rdPtr = s.rdPtr := rfl
@[simp] theorem State.goto_ctrl (s : State) (st : RxState) : (s.goto st).ctrl = s.ctrl := rfl
@[simp] theorem State.goto_maxTries (s : State) (st : RxState) : (s.goto st).maxTries = s.maxTries := rfl
@[simp] theorem State.goto_timeout (s : State) (st : RxState) : (s.goto st).timeout = s.timeout := rfl
@[simp] theorem State.goto_irqPending (s : State) (st : RxState) : (s.goto st).irqPending = s.irqPending := rfl
@[simp] theorem State.goto_irqEnable (s : State) (st : RxState) : (s.goto st).irqEnable = s.irqEnable := rfl
@[simp] theorem State.goto_cnt (s : State) (st : RxState) : (s.goto st).cnt = s.cnt := rfl
@[simp] theorem State.goto_lastEvt (s : State) (st : RxState) : (s.goto st).lastEvt = s.lastEvt := rfl
@[simp] theorem State.goto_crcErr (s : State) (st : RxState) : (s.goto st).crcErr = s.crcErr := rfl
@[simp] theorem State.goto_dropInfo (s : State) (st : RxState) : (s.goto st).dropInfo = s.dropInfo := rfl
@[simp] theorem State.goto_params (s : State) (st : RxState) : (s.goto st).params = s.params := rfl
@[simp] theorem State.goto_txOut (s : State) (st : RxState) : (s.goto st).txOut = s.txOut := rfl
@[simp] theorem State.goto_busOut (s : State) (st : RxState) : (s.goto st).busOut = s.busOut := rfl
@[simp] theorem State.goto_input (s : State) (st : RxState) : (s.goto st).input = s.input := rfl

/-! ### pushEvent -/

@[simp] theorem State.pushEvent_rxState (s : State) (e : Event) : (s.pushEvent e).rxState = s.rxState := rfl
@[simp] theorem State.pushEvent_asm (s : State) (e : Event) : (s.pushEvent e).asm = s.asm := rfl
@[simp] theorem State.pushEvent_last (s : State) (e : Event) : (s.pushEvent e).last = s.last := rfl
@[simp] theorem State.pushEvent_txq (s : State) (e : Event) : (s.pushEvent e).txq = s.txq := rfl
@[simp] theorem State.pushEvent_tries (s : State) (e : Event) : (s.pushEvent e).tries = s.tries := rfl
@[simp] theorem State.pushEvent_elapsed (s : State) (e : Event) : (s.pushEvent e).elapsed = s.elapsed := rfl
@[simp] theorem State.pushEvent_txSeq (s : State) (e : Event) : (s.pushEvent e).txSeq = s.txSeq := rfl
@[simp] theorem State.pushEvent_stage (s : State) (e : Event) : (s.pushEvent e).stage = s.stage := rfl
@[simp] theorem State.pushEvent_rxq (s : State) (e : Event) : (s.pushEvent e).rxq = s.rxq := rfl
@[simp] theorem State.pushEvent_rdPtr (s : State) (e : Event) : (s.pushEvent e).rdPtr = s.rdPtr := rfl
@[simp] theorem State.pushEvent_ctrl (s : State) (e : Event) : (s.pushEvent e).ctrl = s.ctrl := rfl
@[simp] theorem State.pushEvent_maxTries (s : State) (e : Event) : (s.pushEvent e).maxTries = s.maxTries := rfl
@[simp] theorem State.pushEvent_timeout (s : State) (e : Event) : (s.pushEvent e).timeout = s.timeout := rfl
@[simp] theorem State.pushEvent_irqPending (s : State) (e : Event) : (s.pushEvent e).irqPending = s.irqPending := rfl
@[simp] theorem State.pushEvent_irqEnable (s : State) (e : Event) : (s.pushEvent e).irqEnable = s.irqEnable := rfl
@[simp] theorem State.pushEvent_cnt (s : State) (e : Event) : (s.pushEvent e).cnt = s.cnt := rfl
@[simp] theorem State.pushEvent_lastEvt (s : State) (e : Event) : (s.pushEvent e).lastEvt = s.lastEvt := rfl
@[simp] theorem State.pushEvent_crcErr (s : State) (e : Event) : (s.pushEvent e).crcErr = s.crcErr := rfl
@[simp] theorem State.pushEvent_dropInfo (s : State) (e : Event) : (s.pushEvent e).dropInfo = s.dropInfo := rfl
@[simp] theorem State.pushEvent_params (s : State) (e : Event) : (s.pushEvent e).params = s.params := rfl
@[simp] theorem State.pushEvent_txOut (s : State) (e : Event) : (s.pushEvent e).txOut = s.txOut := rfl
@[simp] theorem State.pushEvent_busOut (s : State) (e : Event) : (s.pushEvent e).busOut = s.busOut := rfl
@[simp] theorem State.pushEvent_input (s : State) (e : Event) : (s.pushEvent e).input = e :: s.input := rfl

end Sys2Proof.Machine
end

