-- ==== Sys2Proof/Laws/Ops.lean ====
section
/-! SUPPORT. What each shared operation can do, said once: its equation in each of its cases. -/

namespace Sys2Proof.Machine

/-! ### Receive primitives -/

theorem State.goto_idle (s : State) : s.goto .idle = { s with rxState := .idle, asm := [] } := rfl

theorem State.goto_other (s : State) (st : RxState) (h : st ≠ .idle) : s.goto st = { s with rxState := st } := by
  simp [State.goto, h]

theorem State.anomaly_eq (s : State) (c : CounterId) (k : BitVec 4) (b : Fin 9) :
    s.anomaly c k b =
      { s with cnt := s.cnt.bump c, lastEvt := k, irqPending := s.irqPending ||| (1#9 <<< b.val) } := rfl

theorem State.reject_eq (s : State) :
    s.reject = { s with lastEvt := 12, irqPending := s.irqPending ||| 0x100#9 } := rfl

theorem State.append_room (s : State) (b : Byte) (st : RxState) (h : s.asm.length ≠ s.params.rxbufMax)
    (hst : st ≠ .idle) : s.append b st = { s with asm := s.asm ++ [b], rxState := st } := by
  simp [State.append, h, State.goto, hst]

theorem State.append_full (s : State) (b : Byte) (st : RxState) (h : s.asm.length = s.params.rxbufMax) :
    s.append b st =
      { s with
        rxState := .idle
        asm := []
        txOut := s.txOut ++ nakSeq
        cnt := s.cnt.bump .rxOverflow
        lastEvt := 8
        irqPending := s.irqPending ||| 0x040#9 } := by
  rw [State.append, if_pos h, State.goto_idle, State.anomaly_eq]; rfl

/-! ### Send queue -/

theorem State.startHead_nil (s : State) (h : s.txq = []) : s.startHead = { s with tries := 0, elapsed := 0 } := by
  simp [State.startHead, h]

theorem State.startHead_cons (s : State) (f : TxFrame) (r : List TxFrame) (h : s.txq = f :: r) :
    s.startHead =
      { s with
        tries := 0
        elapsed := 0
        txOut := s.txOut ++ f.wire
        cnt := s.cnt.bump .txFrames } := by
  simp [State.startHead, h, State.emit, State.count]

theorem State.qEnqueue_nil (s : State) (f : TxFrame) (h : s.txq = []) :
    s.qEnqueue f =
      { s with
        txq := [f]
        tries := 0
        elapsed := 0
        txOut := s.txOut ++ f.wire
        cnt := s.cnt.bump .txFrames } := by
  rw [State.qEnqueue, if_pos h]
  exact State.startHead_cons _ f [] (by simp [h]) |>.trans (by simp [h])

theorem State.qEnqueue_cons (s : State) (f : TxFrame) (h : s.txq ≠ []) :
    s.qEnqueue f = { s with txq := s.txq ++ [f] } := by
  rw [State.qEnqueue, if_neg h]

theorem State.retransmit_cons (s : State) (f : TxFrame) (r : List TxFrame) (h : s.txq = f :: r) :
    s.retransmit =
      { s with
        tries := s.tries + 1
        elapsed := 0
        txOut := s.txOut ++ f.wire
        cnt := s.cnt.bump .txRetry } := by
  simp [State.retransmit, h, State.emit, State.count]

/-- A drop: the record, the tail, the anomaly, and then the new head's start (R225). -/
theorem State.drop_cons (s : State) (c : BitVec 1) (f : TxFrame) (r : List TxFrame) (h : s.txq = f :: r) :
    s.drop c =
      State.startHead
        { s with
          dropInfo := { seq := f.seq, marker := f.marker, cause := c }
          txq := r
          cnt := s.cnt.bump .txDrop
          lastEvt := 10 + c.setWidth 4
          irqPending := s.irqPending ||| 0x004#9 } := by
  simp only [State.drop, h]; rfl

theorem State.resendAttempt_cons (s : State) (f : TxFrame) (r : List TxFrame) (h : s.txq = f :: r) :
    (s.maxTries.toNat < s.tries.toNat ∧ s.resendAttempt = s.drop 0) ∨
      (s.tries.toNat ≤ s.maxTries.toNat ∧
        s.resendAttempt =
          { s with
            tries := s.tries + 1
            elapsed := 0
            txOut := s.txOut ++ f.wire
            cnt := s.cnt.bump .txRetry }) := by
  by_cases hx : s.maxTries.toNat < s.tries.toNat
  · exact .inl ⟨hx, by simp [State.resendAttempt, State.triesExhausted, hx]⟩
  · refine .inr ⟨by omega, ?_⟩
    simp [State.resendAttempt, State.triesExhausted, hx, State.retransmit_cons s f r h]

theorem State.onAck_nil (s : State) (h : s.txq = []) : s.onAck = { s with cnt := s.cnt.bump .ackRx } := by
  simp [State.onAck, h, State.count]

theorem State.onAck_cons (s : State) (f : TxFrame) (r : List TxFrame) (h : s.txq = f :: r) :
    s.onAck =
      State.startHead
        { s with
          txq := r
          cnt := (s.cnt.bump .ackRx).bump .txAcked
          irqPending := s.irqPending ||| 0x002#9 } := by
  simp only [State.onAck, State.count_txq, h]; rfl

theorem State.triesExhausted_iff (s : State) :
    s.triesExhausted = true ↔ s.maxTries.toNat < s.tries.toNat := by
  simp [State.triesExhausted]

theorem State.onNak_keep (s : State) (h : s.txq = [] ∨ s.tries.toNat ≤ s.maxTries.toNat) :
    s.onNak = { s with cnt := s.cnt.bump .nakRx } := by
  have : ¬ ((s.count .nakRx).txq ≠ [] ∧ (s.count .nakRx).triesExhausted = true) := by
    rw [State.triesExhausted_iff]
    rintro ⟨h1, h2⟩
    rcases h with h | h
    · exact h1 h
    · exact absurd h2 (not_lt.mpr h)
  exact if_neg this

theorem State.onNak_drop (s : State) (h : s.txq ≠ []) (ht : s.maxTries.toNat < s.tries.toNat) :
    s.onNak = State.drop { s with cnt := s.cnt.bump .nakRx } 1 := by
  have : (s.count .nakRx).txq ≠ [] ∧ (s.count .nakRx).triesExhausted = true :=
    ⟨h, (State.triesExhausted_iff _).mpr ht⟩
  exact if_pos this

theorem State.tick_off (s : State) (h : s.ctrl.en = false ∨ s.txq = []) : s.tick = s := by
  simp [State.tick, h]

theorem State.tick_below (s : State) (he : s.ctrl.en = true) (hq : s.txq ≠ [])
    (h : (s.elapsed + 1).toNat ≤ s.timeout.toNat) : s.tick = { s with elapsed := s.elapsed + 1 } := by
  have h1 : ¬ (s.ctrl.en = false ∨ s.txq = []) := by simp [he, hq]
  have h2 : ¬ s.timeout.toNat < (s.elapsed + 1).toNat := by omega
  rw [State.tick, if_neg h1]; simp only; rw [if_neg h2]

theorem State.tick_past (s : State) (he : s.ctrl.en = true) (hq : s.txq ≠ [])
    (h : s.timeout.toNat < (s.elapsed + 1).toNat) :
    s.tick = State.resendAttempt { s with elapsed := s.elapsed + 1 } := by
  have h1 : ¬ (s.ctrl.en = false ∨ s.txq = []) := by simp [he, hq]
  rw [State.tick, if_neg h1]; simp only; rw [if_pos h]

/-! ### End of frame -/

theorem State.endOfFrame_cons (s : State) (a0 a1 : Byte) (body : List Byte) (h : s.asm = a0 :: a1 :: body) :
    s.endOfFrame = .next { s.classify a0 a1 body with rxState := .idle, asm := [] } := by
  simp only [State.endOfFrame, h]; rfl

/-- If the end-of-frame check answers a next state, the buffer had its two header bytes. -/
theorem State.endOfFrame_next (s t : State) (h : s.endOfFrame = .next t) :
    ∃ a0 a1 body, s.asm = a0 :: a1 :: body ∧ t = { s.classify a0 a1 body with rxState := .idle, asm := [] } := by
  unfold State.endOfFrame at h
  split at h
  · next a0 a1 body hs => exact ⟨a0, a1, body, hs, by cases h; rfl⟩
  · cases h

/-- The five verdicts on a completed frame, with the condition of each (R200). -/
theorem State.classify_cases (s : State) (a0 a1 : Byte) (body : List Byte) :
    ((body.length < 2 ∨ crc16 (crcCovered (a0 :: a1 :: body)) ≠ crcField (a0 :: a1 :: body)) ∧
        s.classify a0 a1 body = s.integrityFail a0 a1 body) ∨
      (2 ≤ body.length ∧ crc16 (crcCovered (a0 :: a1 :: body)) = crcField (a0 :: a1 :: body) ∧
        (((∀ l, s.last = some l → l.seq ≠ a0) ∧ s.classify a0 a1 body = s.acceptNew a0 a1 body) ∨
          (∃ l, s.last = some l ∧ l.seq = a0 ∧
            ((l.bytes = a0 :: a1 :: body ∧ s.classify a0 a1 body = s.replay) ∨
              (l.bytes ≠ a0 :: a1 :: body ∧ s.classify a0 a1 body = s.conflict))))) := by
  by_cases hf : body.length < 2 ∨ crc16 (crcCovered (a0 :: a1 :: body)) ≠ crcField (a0 :: a1 :: body)
  · refine .inl ⟨hf, ?_⟩
    have : (a0 :: a1 :: body).length < 4 ∨ crc16 (crcCovered (a0 :: a1 :: body)) ≠ crcField (a0 :: a1 :: body) :=
      hf.imp (fun h => by simp; omega) id
    simp only [State.classify]; rw [if_pos this]
  · have hn : ¬ ((a0 :: a1 :: body).length < 4 ∨
        crc16 (crcCovered (a0 :: a1 :: body)) ≠ crcField (a0 :: a1 :: body)) := by
      rintro (h | h)
      · exact hf (.inl (by simp at h; omega))
      · exact hf (.inr h)
    have hg : s.classify a0 a1 body = s.guardFrame a0 a1 body := by
      simp only [State.classify]; rw [if_neg hn]
    rw [not_or, not_lt, not_not] at hf
    refine .inr ⟨hf.1, hf.2, ?_⟩
    rw [hg]
    unfold State.guardFrame
    cases hl : s.last with
    | none => exact .inl ⟨by simp, rfl⟩
    | some l =>
      by_cases h1 : l.seq = a0
      · right
        refine ⟨l, rfl, h1, ?_⟩
        by_cases h2 : l.bytes = a0 :: a1 :: body
        · exact .inl ⟨h2, by simp [h1, h2]⟩
        · exact .inr ⟨h2, by simp [h1, h2]⟩
      · exact .inl ⟨by rintro _ ⟨⟩; exact h1, by simp [h1]⟩

theorem State.acceptNew_room (s : State) (a0 a1 : Byte) (body : List Byte)
    (h : s.rxq.length ≠ s.params.rxqDepth) :
    s.acceptNew a0 a1 body =
      { s with
        txOut := s.txOut ++ ackSeq
        last := some { seq := a0, marker := a1, body := body }
        rxq := s.rxq ++ [{ seq := a0, marker := a1, payload := payloadOf (a0 :: a1 :: body) }]
        cnt := s.cnt.bump .rxOk
        irqPending := s.irqPending ||| 0x001#9 } := by
  rw [State.acceptNew, if_neg h]; rfl

theorem State.acceptNew_full (s : State) (a0 a1 : Byte) (body : List Byte)
    (h : s.rxq.length = s.params.rxqDepth) :
    s.acceptNew a0 a1 body =
      { s with
        txOut := s.txOut ++ nakSeq
        cnt := s.cnt.bump .rxOverrun
        lastEvt := 9
        irqPending := s.irqPending ||| 0x080#9 } := by
  rw [State.acceptNew, if_pos h]; rfl

/-- A failed integrity check: the record of R201, NAK, the anomaly. -/
theorem State.integrityFail_eq (s : State) (a0 a1 : Byte) (body : List Byte) :
    s.integrityFail a0 a1 body =
      { s with
        txOut := s.txOut ++ nakSeq
        crcErr :=
          { recv := crcField (a0 :: a1 :: body), comp := crc16 (crcCovered (a0 :: a1 :: body)), seq := a0, type := a1
            len := BitVec.ofNat 16 (a0 :: a1 :: body).length }
        cnt := s.cnt.bump .rxCrc
        lastEvt := 5
        irqPending := s.irqPending ||| 0x008#9 } := rfl

theorem State.replay_eq (s : State) :
    s.replay =
      { s with
        txOut := s.txOut ++ ackSeq
        cnt := s.cnt.bump .rxDup
        lastEvt := 6
        irqPending := s.irqPending ||| 0x010#9 } := rfl

theorem State.conflict_eq (s : State) :
    s.conflict =
      { s with
        txOut := s.txOut ++ nakSeq
        cnt := s.cnt.bump .rxConflict
        lastEvt := 7
        irqPending := s.irqPending ||| 0x020#9 } := rfl

/-! ### Stepping -/

theorem step_of_input (s : State) (e : Event) (rest : List Event) (h : s.input = e :: rest) :
    step s = exec (decodeEvent e) { s with input := rest } := by
  simp [step, State.takeEvent, h]

theorem step_of_no_input (s : State) (h : s.input = []) : step s = .next s := by
  simp [step, State.takeEvent, h]

/-- A step is a wait or one operation on the state that has taken its event. -/
theorem step_cases (s : State) :
    (s.input = [] ∧ step s = .next s) ∨
      ∃ e rest, s.input = e :: rest ∧ step s = exec (decodeEvent e) { s with input := rest } := by
  cases h : s.input with
  | nil => exact .inl ⟨rfl, step_of_no_input s h⟩
  | cons e rest => exact .inr ⟨e, rest, rfl, step_of_input s e rest h⟩

end Sys2Proof.Machine
end

