-- ==== Sys2Proof/Laws/PerInstr.lean ====
section
/-! SUPPORT. The opcode table's mask and match of every row, and for each operation the law that its code has the fixed
bits of its row. -/

namespace Sys2Proof.Laws.TableRow

/-- The fixed bits of a row of spec/opcode_table.json, by the row's format: mask and match. -/
inductive FixedBits where
  | rx (mask value : BitVec 11)
  | cmd (mask value : Word)
  | read (mask value : Offset)
  | write (mask value : Offset)
  | access
  | event
deriving DecidableEq, Repr

/-- The table's mask and match of each row. -/
def fixedBits : Instr → FixedBits
  | .rxIdleEsc => .rx 0x7FF#11 0x010#11
  | .rxIdleStray _ => .rx 0x700#11 0x000#11
  | .rxIescSof => .rx 0x7FF#11 0x100#11
  | .rxIescAck => .rx 0x7FF#11 0x111#11
  | .rxIescNak => .rx 0x7FF#11 0x112#11
  | .rxIescOther _ => .rx 0x700#11 0x100#11
  | .rxSeqEsc => .rx 0x7FF#11 0x210#11
  | .rxSeqData _ => .rx 0x700#11 0x200#11
  | .rxSescEsc => .rx 0x7FF#11 0x310#11
  | .rxSescBad _ => .rx 0x700#11 0x300#11
  | .rxTypeMk11 => .rx 0x7FF#11 0x411#11
  | .rxTypeMk91 => .rx 0x7FF#11 0x491#11
  | .rxTypeBad _ => .rx 0x700#11 0x400#11
  | .rxInfoEsc => .rx 0x7FF#11 0x510#11
  | .rxInfoData _ => .rx 0x700#11 0x500#11
  | .rxIfescEsc => .rx 0x7FF#11 0x610#11
  | .rxIfescEof => .rx 0x7FF#11 0x6FF#11
  | .rxIfescAck => .rx 0x7FF#11 0x611#11
  | .rxIfescSof => .rx 0x7FF#11 0x600#11
  | .rxIfescBad _ => .rx 0x700#11 0x600#11
  | .cmdNop => .cmd 0xFFFFFFFF#32 0x00000000#32
  | .cmdEnqueue => .cmd 0xFFFFFFFF#32 0x00000001#32
  | .cmdRxPop => .cmd 0xFFFFFFFF#32 0x00000002#32
  | .cmdTxStageClr => .cmd 0xFFFFFFFF#32 0x00000003#32
  | .cmdLinkReset => .cmd 0xFFFFFFFF#32 0x00000004#32
  | .cmdCntClr => .cmd 0xFFFFFFFF#32 0x00000005#32
  | .cmdReserved _ => .cmd 0x00000000#32 0x00000000#32
  | .hostBusError _ => .access
  | .rdCtrl => .read 0xFF#8 0x00#8
  | .rdStatus => .read 0xFF#8 0x04#8
  | .rdMaxTries => .read 0xFF#8 0x08#8
  | .rdTimeout => .read 0xFF#8 0x0C#8
  | .rdTxSeq => .read 0xFF#8 0x10#8
  | .rdHeadTries => .read 0xFF#8 0x14#8
  | .rdHeadElapsed => .read 0xFF#8 0x18#8
  | .rdLastAcc => .read 0xFF#8 0x1C#8
  | .rdTxData => .read 0xFF#8 0x20#8
  | .rdCmd => .read 0xFF#8 0x24#8
  | .rdTxStageLen => .read 0xFF#8 0x28#8
  | .rdCap0 => .read 0xFF#8 0x2C#8
  | .rdCap1 => .read 0xFF#8 0x30#8
  | .rdRxInfo => .read 0xFF#8 0x34#8
  | .rdRxData => .read 0xFF#8 0x38#8
  | .rdLastEvt => .read 0xFF#8 0x3C#8
  | .rdIrqPending => .read 0xFF#8 0x40#8
  | .rdIrqEnable => .read 0xFF#8 0x44#8
  | .rdCrcerrCrc => .read 0xFF#8 0x48#8
  | .rdCrcerrHdr => .read 0xFF#8 0x4C#8
  | .rdDropInfo => .read 0xFF#8 0x50#8
  | .rdRxAsmLen => .read 0xFF#8 0x54#8
  | .rdCntRxOk => .read 0xFF#8 0x80#8
  | .rdCntRxDup => .read 0xFF#8 0x84#8
  | .rdCntRxConflict => .read 0xFF#8 0x88#8
  | .rdCntRxCrc => .read 0xFF#8 0x8C#8
  | .rdCntRxBadmarker => .read 0xFF#8 0x90#8
  | .rdCntRxBadesc => .read 0xFF#8 0x94#8
  | .rdCntRxStray => .read 0xFF#8 0x98#8
  | .rdCntRxAbort => .read 0xFF#8 0x9C#8
  | .rdCntRxOverflow => .read 0xFF#8 0xA0#8
  | .rdCntRxOverrun => .read 0xFF#8 0xA4#8
  | .rdCntAckRx => .read 0xFF#8 0xA8#8
  | .rdCntNakRx => .read 0xFF#8 0xAC#8
  | .rdCntTxFrames => .read 0xFF#8 0xB0#8
  | .rdCntTxRetry => .read 0xFF#8 0xB4#8
  | .rdCntTxDrop => .read 0xFF#8 0xB8#8
  | .rdCntTxAcked => .read 0xFF#8 0xBC#8
  | .rdReserved058 _ => .read 0xF8#8 0x58#8
  | .rdReserved060 _ => .read 0xE0#8 0x60#8
  | .rdReserved0C0 _ => .read 0xC0#8 0xC0#8
  | .wrCtrl _ => .write 0xFF#8 0x00#8
  | .wrMaxTries _ => .write 0xFF#8 0x08#8
  | .wrTimeout _ => .write 0xFF#8 0x0C#8
  | .wrTxSeq _ => .write 0xFF#8 0x10#8
  | .wrTxData _ => .write 0xFF#8 0x20#8
  | .wrCmd _ => .write 0xFF#8 0x24#8
  | .wrIrqPending _ => .write 0xFF#8 0x40#8
  | .wrIrqEnable _ => .write 0xFF#8 0x44#8
  | .wrIgnored _ _ => .write 0x00#8 0x00#8
  | .evRxByte _ => .event
  | .evTick => .event
  | .evReset => .event

/-- A code has the format and the fixed bits of a row. -/
def fits : FixedBits → Code → Bool
  | .rx mask value, .rx w => w &&& mask == value
  | .cmd mask value, .cmd v => v &&& mask == value
  | .read mask value, .event (.host (.read off 4)) => off &&& mask == value
  | .write mask value, .event (.host (.write off 4 _)) => off &&& mask == value
  | .access, .event (.host _) => true
  | .event, .event _ => true
  | _, _ => false

/-- The code of a well-formed operation has the fixed bits of its row. -/
def Statement (i : Instr) : Prop :=
  ∀ m : Markers, i.wellFormed m = true → fits (fixedBits i) (encode i) = true

theorem fixedRx_b (st : RxState) (b : Byte) :
    (rxWord st b &&& 0x700#11 == st.code.setWidth 11 <<< 8) = true := by
  revert b; cases st <;> decide

theorem reserved_fits (off mask value : Offset) (h : (wordAccess off 4 && off &&& mask == value) = true) :
    (off &&& mask == value) = true := (Bool.and_eq_true _ _ ▸ h : _ ∧ _).2

theorem rxIdleEsc : Statement .rxIdleEsc := fun _ _ => rfl

theorem rxIdleStray (b : Byte) : Statement (.rxIdleStray b) := fun _ _ => fixedRx_b .idle b

theorem rxIescSof : Statement .rxIescSof := fun _ _ => rfl

theorem rxIescAck : Statement .rxIescAck := fun _ _ => rfl

theorem rxIescNak : Statement .rxIescNak := fun _ _ => rfl

theorem rxIescOther (b : Byte) : Statement (.rxIescOther b) := fun _ _ => fixedRx_b .idleEscape b

theorem rxSeqEsc : Statement .rxSeqEsc := fun _ _ => rfl

theorem rxSeqData (b : Byte) : Statement (.rxSeqData b) := fun _ _ => fixedRx_b .seqNo b

theorem rxSescEsc : Statement .rxSescEsc := fun _ _ => rfl

theorem rxSescBad (b : Byte) : Statement (.rxSescBad b) := fun _ _ => fixedRx_b .seqNoEscape b

theorem rxTypeMk11 : Statement .rxTypeMk11 := fun _ _ => rfl

theorem rxTypeMk91 : Statement .rxTypeMk91 := fun _ _ => rfl

theorem rxTypeBad (b : Byte) : Statement (.rxTypeBad b) := fun _ _ => fixedRx_b .type b

theorem rxInfoEsc : Statement .rxInfoEsc := fun _ _ => rfl

theorem rxInfoData (b : Byte) : Statement (.rxInfoData b) := fun _ _ => fixedRx_b .infoFrame b

theorem rxIfescEsc : Statement .rxIfescEsc := fun _ _ => rfl

theorem rxIfescEof : Statement .rxIfescEof := fun _ _ => rfl

theorem rxIfescAck : Statement .rxIfescAck := fun _ _ => rfl

theorem rxIfescSof : Statement .rxIfescSof := fun _ _ => rfl

theorem rxIfescBad (b : Byte) : Statement (.rxIfescBad b) := fun _ _ => fixedRx_b .infoFrameEscape b

theorem cmdNop : Statement .cmdNop := fun _ _ => rfl

theorem cmdEnqueue : Statement .cmdEnqueue := fun _ _ => rfl

theorem cmdRxPop : Statement .cmdRxPop := fun _ _ => rfl

theorem cmdTxStageClr : Statement .cmdTxStageClr := fun _ _ => rfl

theorem cmdLinkReset : Statement .cmdLinkReset := fun _ _ => rfl

theorem cmdCntClr : Statement .cmdCntClr := fun _ _ => rfl

theorem cmdReserved (v : Word) : Statement (.cmdReserved v) := fun _ _ => by simp [fits, fixedBits, encode]

theorem hostBusError (a : HostAccess) : Statement (.hostBusError a) := fun _ _ => rfl

theorem rdCtrl : Statement .rdCtrl := fun _ _ => rfl

theorem rdStatus : Statement .rdStatus := fun _ _ => rfl

theorem rdMaxTries : Statement .rdMaxTries := fun _ _ => rfl

theorem rdTimeout : Statement .rdTimeout := fun _ _ => rfl

theorem rdTxSeq : Statement .rdTxSeq := fun _ _ => rfl

theorem rdHeadTries : Statement .rdHeadTries := fun _ _ => rfl

theorem rdHeadElapsed : Statement .rdHeadElapsed := fun _ _ => rfl

theorem rdLastAcc : Statement .rdLastAcc := fun _ _ => rfl

theorem rdTxData : Statement .rdTxData := fun _ _ => rfl

theorem rdCmd : Statement .rdCmd := fun _ _ => rfl

theorem rdTxStageLen : Statement .rdTxStageLen := fun _ _ => rfl

theorem rdCap0 : Statement .rdCap0 := fun _ _ => rfl

theorem rdCap1 : Statement .rdCap1 := fun _ _ => rfl

theorem rdRxInfo : Statement .rdRxInfo := fun _ _ => rfl

theorem rdRxData : Statement .rdRxData := fun _ _ => rfl

theorem rdLastEvt : Statement .rdLastEvt := fun _ _ => rfl

theorem rdIrqPending : Statement .rdIrqPending := fun _ _ => rfl

theorem rdIrqEnable : Statement .rdIrqEnable := fun _ _ => rfl

theorem rdCrcerrCrc : Statement .rdCrcerrCrc := fun _ _ => rfl

theorem rdCrcerrHdr : Statement .rdCrcerrHdr := fun _ _ => rfl

theorem rdDropInfo : Statement .rdDropInfo := fun _ _ => rfl

theorem rdRxAsmLen : Statement .rdRxAsmLen := fun _ _ => rfl

theorem rdCntRxOk : Statement .rdCntRxOk := fun _ _ => rfl

theorem rdCntRxDup : Statement .rdCntRxDup := fun _ _ => rfl

theorem rdCntRxConflict : Statement .rdCntRxConflict := fun _ _ => rfl

theorem rdCntRxCrc : Statement .rdCntRxCrc := fun _ _ => rfl

theorem rdCntRxBadmarker : Statement .rdCntRxBadmarker := fun _ _ => rfl

theorem rdCntRxBadesc : Statement .rdCntRxBadesc := fun _ _ => rfl

theorem rdCntRxStray : Statement .rdCntRxStray := fun _ _ => rfl

theorem rdCntRxAbort : Statement .rdCntRxAbort := fun _ _ => rfl

theorem rdCntRxOverflow : Statement .rdCntRxOverflow := fun _ _ => rfl

theorem rdCntRxOverrun : Statement .rdCntRxOverrun := fun _ _ => rfl

theorem rdCntAckRx : Statement .rdCntAckRx := fun _ _ => rfl

theorem rdCntNakRx : Statement .rdCntNakRx := fun _ _ => rfl

theorem rdCntTxFrames : Statement .rdCntTxFrames := fun _ _ => rfl

theorem rdCntTxRetry : Statement .rdCntTxRetry := fun _ _ => rfl

theorem rdCntTxDrop : Statement .rdCntTxDrop := fun _ _ => rfl

theorem rdCntTxAcked : Statement .rdCntTxAcked := fun _ _ => rfl

theorem rdReserved058 (off : Offset) : Statement (.rdReserved058 off) := fun _ h => reserved_fits off 0xF8#8 0x58#8 h

theorem rdReserved060 (off : Offset) : Statement (.rdReserved060 off) := fun _ h => reserved_fits off 0xE0#8 0x60#8 h

theorem rdReserved0C0 (off : Offset) : Statement (.rdReserved0C0 off) := fun _ h => reserved_fits off 0xC0#8 0xC0#8 h

theorem wrCtrl (v : Word) : Statement (.wrCtrl v) := fun _ _ => rfl

theorem wrMaxTries (v : Word) : Statement (.wrMaxTries v) := fun _ _ => rfl

theorem wrTimeout (v : Word) : Statement (.wrTimeout v) := fun _ _ => rfl

theorem wrTxSeq (v : Word) : Statement (.wrTxSeq v) := fun _ _ => rfl

theorem wrTxData (v : Word) : Statement (.wrTxData v) := fun _ _ => rfl

theorem wrCmd (v : Word) : Statement (.wrCmd v) := fun _ _ => rfl

theorem wrIrqPending (v : Word) : Statement (.wrIrqPending v) := fun _ _ => rfl

theorem wrIrqEnable (v : Word) : Statement (.wrIrqEnable v) := fun _ _ => rfl

theorem wrIgnored (off : Offset) (v : Word) : Statement (.wrIgnored off v) := fun _ _ => by simp [fits, fixedBits, encode, writeCode]

theorem evRxByte (b : Byte) : Statement (.evRxByte b) := fun _ _ => rfl

theorem evTick : Statement .evTick := fun _ _ => rfl

theorem evReset : Statement .evReset := fun _ _ => rfl

end Sys2Proof.Laws.TableRow
end

