-- ==== Sys2Proof/Laws/Receive.lean ====
section
/-! SUPPORT. The two dispatches of the block (R161, R271), and the parts of a received buffer that ends in its CRC. -/

namespace Sys2Proof.Machine

/-- Running a receive row is running its operation. -/
theorem runRxRow_toInstr (r : RxRow) (s : State) : runRxRow r s = exec r.toInstr s := by
  cases r <;> rfl

/-- Running a command row is running its operation. -/
theorem runCmdRow_toInstr (r : CmdRow) (s : State) : runCmdRow r s = exec r.toInstr s := by
  cases r <;> rfl

theorem evRxByte_disabled (s : State) (b : Byte) (h : s.ctrl.en = false) : exec (.evRxByte b) s = .next s := by
  show execEvRxByte b s = _
  simp [execEvRxByte, h]

theorem evRxByte_enabled (s : State) (b : Byte) (h : s.ctrl.en = true) :
    exec (.evRxByte b) s = exec (rxRow s.markers s.rxState b).toInstr s := by
  rw [← runRxRow_toInstr]
  show execEvRxByte b s = _
  simp [execEvRxByte, h]

theorem wrCmd_eq (s : State) (v : Word) : exec (.wrCmd v) s = exec (cmdRow v).toInstr s := by
  rw [← runCmdRow_toInstr]; rfl

/-- Which bytes are known markers (R106). -/
theorem Markers.known_iff (m : Markers) (b : Byte) :
    m.known b = true ↔ (b = Wire.mkE2T ∧ m.acc11 = true) ∨ (b = Wire.mkT2E ∧ m.acc91 = true) := by
  simp [Markers.known]

/-! ### A buffer that ends in its two CRC bytes -/

theorem crcCovered_snoc (l : List Byte) (hi lo : Byte) : crcCovered (l ++ [hi, lo]) = l := by
  simp [crcCovered]

theorem crcField_snoc (l : List Byte) (hi lo : Byte) : crcField (l ++ [hi, lo]) = hi ++ lo := by
  simp [crcField, List.getD_eq_getElem?_getD]

theorem payloadOf_snoc (q m : Byte) (p : List Byte) (hi lo : Byte) : payloadOf (q :: m :: (p ++ [hi, lo])) = p := by
  have h := crcCovered_snoc (q :: m :: p) hi lo
  simp only [List.cons_append] at h
  simp [payloadOf, h]

/-- The verdict on a buffer whose CRC is right (R200). -/
theorem State.classify_right_crc (s : State) (q m hi lo : Byte) (p : List Byte)
    (h : crc16 (q :: m :: p) = hi ++ lo) :
    ((∀ l, s.last = some l → l.seq ≠ q) ∧
        s.classify q m (p ++ [hi, lo]) = s.acceptNew q m (p ++ [hi, lo])) ∨
      (∃ l, s.last = some l ∧ l.seq = q ∧
        ((l.bytes = q :: m :: (p ++ [hi, lo]) ∧ s.classify q m (p ++ [hi, lo]) = s.replay) ∨
          (l.bytes ≠ q :: m :: (p ++ [hi, lo]) ∧ s.classify q m (p ++ [hi, lo]) = s.conflict))) := by
  have e : q :: m :: (p ++ [hi, lo]) = (q :: m :: p) ++ [hi, lo] := rfl
  rcases State.classify_cases s q m (p ++ [hi, lo]) with ⟨ha, _⟩ | ⟨_, _, h2⟩
  · exfalso
    rw [e, crcCovered_snoc, crcField_snoc] at ha
    rcases ha with ha | ha
    · simp at ha
    · exact ha h
  · exact h2

end Sys2Proof.Machine
end

