-- ==== Sys2Proof/Tests/Slice0.lean ====
section
/-! SUPPORT. Tests: each check of WellFormed refuses an ill-formed term; every constructor's code, written out from the
spec's encoding, decodes to it; vectors of 95_test_vectors.md (named by their section); and for each statement with
hypotheses a witness that meets them. -/

namespace Sys2Proof.Tests

open Sys2Proof.Machine

/-! ## Helpers -/

/-- After Reset, EN = 1 (the start of the vectors). -/
def enabled : State := { State.reset with ctrl := { State.reset.ctrl with en := true } }

/-- EN = 1, in a receive state with a buffer. -/
def inState (st : RxState) (asm : List Byte) : State := { enabled with rxState := st, asm := asm }

/-- A state with events waiting. -/
def withInput (s : State) (evs : List Event) : State := { s with input := evs }

/-- One view of the state an outcome leads to. -/
def after {α : Type} (o : Host.Outcome State Fault Refusal) (f : State → α) : Option α :=
  match o with
  | .next t => some (f t)
  | .fault _ => none
  | .refused _ => none

/-- The answer an outcome leads to last. -/
def lastAnswer (o : Host.Outcome State Fault Refusal) : Option BusAnswer :=
  (after o fun t => t.busOut.getLast?).join

/-- The sixteen counters, in the order of R58. -/
def counters (s : State) : List Nat :=
  [s.cnt.rxOk, s.cnt.rxDup, s.cnt.rxConflict, s.cnt.rxCrc, s.cnt.rxBadmarker, s.cnt.rxBadesc, s.cnt.rxStray,
    s.cnt.rxAbort, s.cnt.rxOverflow, s.cnt.rxOverrun, s.cnt.ackRx, s.cnt.nakRx, s.cnt.txFrames, s.cnt.txRetry,
    s.cnt.txDrop, s.cnt.txAcked].map BitVec.toNat

/-- What a receive vector's row shows: state, buffer, output, event, pending bits. -/
structure RowView where
  state : RxState
  asm : List Byte
  out : List Byte
  evt : BitVec 4
  pend : BitVec 9
deriving DecidableEq, Repr

/-- The row view of a state. -/
def rowView (s : State) : RowView where
  state := s.rxState
  asm := s.asm
  out := s.txOut
  evt := s.lastEvt
  pend := s.irqPending

/-- The frame `"A"` of Section 2.5, sequence number 1. -/
def frameA : TxFrame :=
  { seq := 0x01, marker := 0x11, wire := [0x10, 0x00, 0x01, 0x11, 0x41, 0x0A, 0x9D, 0x50, 0x10, 0xFF] }

/-- The frame `"B"` of Section 2.5, sequence number 2. -/
def frameB : TxFrame :=
  { seq := 0x02, marker := 0x11, wire := [0x10, 0x00, 0x02, 0x11, 0x42, 0x0A, 0x53, 0xDF, 0x10, 0xFF] }

/-- Frame A in flight. -/
def sendingA : State := { enabled with txq := [frameA], txSeq := 2 }

/-- Frames A and B queued. -/
def sendingAB : State := { enabled with txq := [frameA, frameB], txSeq := 3 }

/-- The frame 01 11 "A\n" as `last` holds it. -/
def lastA : LastFrame := { seq := 0x01, marker := 0x11, body := [0x41, 0x0A, 0x9D, 0x50] }

/-- The logical bytes of that frame. -/
def asmA : List Byte := [0x01, 0x11, 0x41, 0x0A, 0x9D, 0x50]

/-! ## WellFormed refuses what each of its checks is about -/

theorem test_wf_catch_all_bytes :
    (Instr.rxIdleStray 0x10).wellFormed Markers.both = false ∧
      (Instr.rxIescOther 0x00).wellFormed Markers.both = false ∧
      (Instr.rxIescOther 0x11).wellFormed Markers.both = false ∧
      (Instr.rxIescOther 0x12).wellFormed Markers.both = false ∧
      (Instr.rxSeqData 0x10).wellFormed Markers.both = false ∧
      (Instr.rxSescBad 0x10).wellFormed Markers.both = false ∧
      (Instr.rxInfoData 0x10).wellFormed Markers.both = false ∧
      (Instr.rxIfescBad 0x10).wellFormed Markers.both = false ∧
      (Instr.rxIfescBad 0xFF).wellFormed Markers.both = false ∧
      (Instr.rxIfescBad 0x11).wellFormed Markers.both = false ∧
      (Instr.rxIfescBad 0x00).wellFormed Markers.both = false := by decide

theorem test_wf_markers :
    (Instr.rxTypeBad 0x11).wellFormed ⟨true, false⟩ = false ∧ (Instr.rxTypeBad 0x91).wellFormed ⟨true, false⟩ = true ∧
      (Instr.rxTypeBad 0x91).wellFormed ⟨false, true⟩ = false ∧ (Instr.rxTypeBad 0x11).wellFormed ⟨false, true⟩ = true ∧
      Instr.rxTypeMk11.wellFormed ⟨false, true⟩ = false ∧ Instr.rxTypeMk91.wellFormed ⟨true, false⟩ = false := by
  decide

theorem test_wf_commands :
    (Instr.cmdReserved 5).wellFormed Markers.both = false ∧ (Instr.cmdReserved 6).wellFormed Markers.both = true ∧
      (Instr.cmdReserved 0x11).wellFormed Markers.both = true := by decide

theorem test_wf_accesses :
    (Instr.hostBusError (.read 0x00 4)).wellFormed Markers.both = false ∧
      (Instr.hostBusError (.write 0x00 4 0)).wellFormed Markers.both = false ∧
      (Instr.hostBusError (.read 0x02 4)).wellFormed Markers.both = true ∧
      (Instr.hostBusError (.write 0x00 1 0)).wellFormed Markers.both = true ∧
      (Instr.rdReserved058 0x60).wellFormed Markers.both = false ∧
      (Instr.rdReserved058 0x59).wellFormed Markers.both = false ∧
      (Instr.rdReserved060 0x80).wellFormed Markers.both = false ∧
      (Instr.rdReserved060 0x62).wellFormed Markers.both = false ∧
      (Instr.rdReserved0C0 0xBC).wellFormed Markers.both = false ∧
      (Instr.rdReserved0C0 0xFF).wellFormed Markers.both = false ∧
      (Instr.wrIgnored 0x24 0).wellFormed Markers.both = false ∧
      (Instr.wrIgnored 0x05 0).wellFormed Markers.both = false ∧
      (Instr.wrIgnored 0x04 0).wellFormed Markers.both = true := by decide

/-! ## Decoding: words written out from R34, R106 and R112 (receive), R111 (commands), R46 (offsets), R30 (events) -/

/-- Bits 10 to 8 the state, bits 7 to 0 the byte. -/
theorem test_decode_receive :
    ([0b000_00010000, 0b000_01010101, 0b001_00000000, 0b001_00010001, 0b001_00010010, 0b001_11111111,
        0b010_00010000, 0b010_00000001, 0b011_00010000, 0b011_11111111, 0b100_00010001, 0b100_10010001,
        0b100_00100010, 0b101_00010000, 0b101_01000010, 0b110_00010000, 0b110_11111111, 0b110_00010001,
        0b110_00000000, 0b110_00010010] : List (BitVec 11)).map (fun w => decode Markers.both (.rx w)) =
      [.ok .rxIdleEsc, .ok (.rxIdleStray 0x55), .ok .rxIescSof, .ok .rxIescAck, .ok .rxIescNak,
        .ok (.rxIescOther 0xFF), .ok .rxSeqEsc, .ok (.rxSeqData 0x01), .ok .rxSescEsc, .ok (.rxSescBad 0xFF),
        .ok .rxTypeMk11, .ok .rxTypeMk91, .ok (.rxTypeBad 0x22), .ok .rxInfoEsc, .ok (.rxInfoData 0x42),
        .ok .rxIfescEsc, .ok .rxIfescEof, .ok .rxIfescAck, .ok .rxIfescSof, .ok (.rxIfescBad 0x12)] := by decide

/-- With ACC11 = 0 the marker 11 is unknown; state code 7 selects no row. -/
theorem test_decode_receive_refused :
    decode ⟨false, true⟩ (.rx 0b100_00010001) = .ok (.rxTypeBad 0x11) ∧
      decode ⟨true, false⟩ (.rx 0b100_10010001) = .ok (.rxTypeBad 0x91) ∧
      decode Markers.both (.rx 0b111_00010000) = .error (.rxStateCode7 0x710) := by decide

theorem test_decode_commands :
    ([0x00000000, 0x00000001, 0x00000002, 0x00000003, 0x00000004, 0x00000005, 0x00000006, 0x0000000F, 0x00000011,
        0x80000001] : List Word).map (fun v => decode Markers.both (.cmd v)) =
      [.ok .cmdNop, .ok .cmdEnqueue, .ok .cmdRxPop, .ok .cmdTxStageClr, .ok .cmdLinkReset, .ok .cmdCntClr,
        .ok (.cmdReserved 6), .ok (.cmdReserved 15), .ok (.cmdReserved 0x11), .ok (.cmdReserved 0x80000001)] := by
  decide

theorem test_decode_reads_low :
    ([0x00, 0x04, 0x08, 0x0C, 0x10, 0x14, 0x18, 0x1C, 0x20, 0x24, 0x28, 0x2C, 0x30, 0x34, 0x38, 0x3C, 0x40, 0x44,
        0x48, 0x4C, 0x50, 0x54] : List Offset).map (fun o => decode Markers.both (.event (.host (.read o 4)))) =
      [.ok .rdCtrl, .ok .rdStatus, .ok .rdMaxTries, .ok .rdTimeout, .ok .rdTxSeq, .ok .rdHeadTries,
        .ok .rdHeadElapsed, .ok .rdLastAcc, .ok .rdTxData, .ok .rdCmd, .ok .rdTxStageLen, .ok .rdCap0, .ok .rdCap1,
        .ok .rdRxInfo, .ok .rdRxData, .ok .rdLastEvt, .ok .rdIrqPending, .ok .rdIrqEnable, .ok .rdCrcerrCrc,
        .ok .rdCrcerrHdr, .ok .rdDropInfo, .ok .rdRxAsmLen] := by decide

theorem test_decode_reads_high :
    ([0x80, 0x84, 0x88, 0x8C, 0x90, 0x94, 0x98, 0x9C, 0xA0, 0xA4, 0xA8, 0xAC, 0xB0, 0xB4, 0xB8, 0xBC, 0x58, 0x5C,
        0x60, 0x7C, 0xC0, 0xFC] : List Offset).map (fun o => decode Markers.both (.event (.host (.read o 4)))) =
      [.ok .rdCntRxOk, .ok .rdCntRxDup, .ok .rdCntRxConflict, .ok .rdCntRxCrc, .ok .rdCntRxBadmarker,
        .ok .rdCntRxBadesc, .ok .rdCntRxStray, .ok .rdCntRxAbort, .ok .rdCntRxOverflow, .ok .rdCntRxOverrun,
        .ok .rdCntAckRx, .ok .rdCntNakRx, .ok .rdCntTxFrames, .ok .rdCntTxRetry, .ok .rdCntTxDrop, .ok .rdCntTxAcked,
        .ok (.rdReserved058 0x58), .ok (.rdReserved058 0x5C), .ok (.rdReserved060 0x60), .ok (.rdReserved060 0x7C),
        .ok (.rdReserved0C0 0xC0), .ok (.rdReserved0C0 0xFC)] := by decide

theorem test_decode_writes :
    ([0x00, 0x08, 0x0C, 0x10, 0x20, 0x24, 0x40, 0x44, 0x04, 0x80, 0xFC] : List Offset).map
        (fun o => decode Markers.both (.event (.host (.write o 4 0xABCD)))) =
      [.ok (.wrCtrl 0xABCD), .ok (.wrMaxTries 0xABCD), .ok (.wrTimeout 0xABCD), .ok (.wrTxSeq 0xABCD),
        .ok (.wrTxData 0xABCD), .ok (.wrCmd 0xABCD), .ok (.wrIrqPending 0xABCD), .ok (.wrIrqEnable 0xABCD),
        .ok (.wrIgnored 0x04 0xABCD), .ok (.wrIgnored 0x80 0xABCD), .ok (.wrIgnored 0xFC 0xABCD)] := by decide

/-- The failing accesses of Section 2.6, and the events. -/
theorem test_decode_bus_errors_and_events :
    ([.host (.read 0x00 2), .host (.read 0x02 4), .host (.write 0x01 4 0), .host (.write 0x00 1 0), .rxByte 0x10,
        .tick, .reset] : List Event).map (fun e => decode Markers.both (.event e)) =
      [.ok (.hostBusError (.read 0x00 2)), .ok (.hostBusError (.read 0x02 4)), .ok (.hostBusError (.write 0x01 4 0)),
        .ok (.hostBusError (.write 0x00 1 0)), .ok (.evRxByte 0x10), .ok .evTick, .ok .evReset] := by decide

theorem test_decode_table_words :
    decodeTableWord 16 0x010 = some .rxIdleEsc ∧ decodeTableWord 16 0x6FF = some .rxIfescEof ∧
      decodeTableWord 16 0x700 = none ∧ decodeTableWord 32 0x4 = some .cmdLinkReset ∧
      decodeTableWord 8 0x54 = some .rdRxAsmLen ∧ decodeTableWord 8 0x02 = some (.hostBusError (.read 0x02 4)) ∧
      decodeTableWord 0 0 = none := by decide

/-- A placed word is the next operation run: the marker byte reaches a frame in `Type`, the command and the read
complete. -/
theorem test_place_table_words :
    after (step (State.reset.withFetchWord 16 0x411)) (fun t => (t.rxState, t.asm)) =
        some (.infoFrame, [0x01, 0x11]) ∧
      after (step (State.reset.withFetchWord 32 0x6)) (fun t => t.lastEvt) = some 12 ∧
      lastAnswer (step (State.reset.withFetchWord 8 0x10)) = some (.data 1) := by decide

/-! ## The codec (Sections 2.1, 2.2) -/

theorem test_crc :
    [([] : List Byte), [0x00], [0x01], [0x09], [0x10], [0x80], [0xFF], [0x41],
        [0x31, 0x32, 0x33, 0x34, 0x35, 0x36, 0x37, 0x38, 0x39], [0x01, 0x11, 0x0A], [0x01, 0x11, 0x41, 0x0A],
        [0x03, 0x11, 0x10, 0x10, 0x41, 0x0A]].map crc16 =
      [0x0000, 0x0000, 0x1021, 0x9129, 0x1231, 0x9188, 0x1EF0, 0x58E5, 0x31C3, 0xA638, 0x9D50, 0xA798] := by decide

theorem test_terminate_and_stuff :
    [([] : List Byte), [0x41], [0x41, 0x0A], [0x0A, 0x41]].map terminate =
        [[0x0A], [0x41, 0x0A], [0x41, 0x0A], [0x0A, 0x41, 0x0A]] ∧
      stuff [0x10, 0x10] = [0x10, 0x10, 0x10, 0x10] ∧
      stuff [0x00, 0xFF, 0x11, 0x12, 0x91] = [0x00, 0xFF, 0x11, 0x12, 0x91] := by decide

theorem test_encode_frame :
    encodeFrame 0x01 0x11 [] = [0x10, 0x00, 0x01, 0x11, 0x0A, 0xA6, 0x38, 0x10, 0xFF] ∧
      encodeFrame 0x10 0x11 [0x48, 0x69] =
        [0x10, 0x00, 0x10, 0x10, 0x11, 0x48, 0x69, 0x0A, 0xCD, 0xBD, 0x10, 0xFF] ∧
      wrap 0x01 0x11 [0x67, 0x0A] = [0x10, 0x00, 0x01, 0x11, 0x67, 0x0A, 0x31, 0x10, 0x10, 0x10, 0xFF] := by decide

/-! ## Receive rows (Section 2.3) -/

theorem test_rx_idle :
    after (exec (.evRxByte 0x10) (inState .idle [])) rowView = some ⟨.idleEscape, [], [], 0, 0⟩ ∧
      after (exec (.evRxByte 0x11) (inState .idle [])) rowView = some ⟨.idle, [], [], 1, 0⟩ := by decide

theorem test_rx_idle_escape :
    after (exec (.evRxByte 0x00) (inState .idleEscape [])) rowView = some ⟨.seqNo, [], [], 0, 0⟩ ∧
      after (exec (.evRxByte 0x11) (inState .idleEscape [])) rowView = some ⟨.idle, [], [], 0, 0⟩ ∧
      after (exec (.evRxByte 0x12) (inState .idleEscape [])) rowView = some ⟨.idle, [], [], 0, 0⟩ ∧
      after (exec (.evRxByte 0xFF) (inState .idleEscape [])) rowView = some ⟨.idle, [], [], 0, 0⟩ := by decide

theorem test_rx_sequence :
    after (exec (.evRxByte 0x10) (inState .seqNo [])) rowView = some ⟨.seqNoEscape, [], [], 0, 0⟩ ∧
      after (exec (.evRxByte 0x01) (inState .seqNo [])) rowView = some ⟨.type, [0x01], [], 0, 0⟩ ∧
      after (exec (.evRxByte 0x10) (inState .seqNoEscape [])) rowView = some ⟨.type, [0x10], [], 0, 0⟩ ∧
      after (exec (.evRxByte 0xFF) (inState .seqNoEscape [])) rowView = some ⟨.seqNo, [], [], 2, 0x040⟩ := by decide

theorem test_rx_type :
    after (exec (.evRxByte 0x11) (inState .type [0x01])) rowView = some ⟨.infoFrame, [0x01, 0x11], [], 0, 0⟩ ∧
      after (exec (.evRxByte 0x91) (inState .type [0x01])) rowView = some ⟨.infoFrame, [0x01, 0x91], [], 0, 0⟩ ∧
      after (exec (.evRxByte 0x22) (inState .type [0x01])) rowView =
        some ⟨.idle, [], [0x10, 0x12], 3, 0x040⟩ := by decide

theorem test_rx_info :
    after (exec (.evRxByte 0x10) (inState .infoFrame [0x01, 0x11, 0x41])) rowView =
        some ⟨.infoFrameEscape, [0x01, 0x11, 0x41], [], 0, 0⟩ ∧
      after (exec (.evRxByte 0x42) (inState .infoFrame [0x01, 0x11, 0x41])) rowView =
        some ⟨.infoFrame, [0x01, 0x11, 0x41, 0x42], [], 0, 0⟩ := by decide

theorem test_rx_info_escape :
    after (exec (.evRxByte 0x10) (inState .infoFrameEscape [0x01, 0x11, 0x41])) rowView =
        some ⟨.infoFrame, [0x01, 0x11, 0x41, 0x10], [], 0, 0⟩ ∧
      after (exec (.evRxByte 0xFF) (inState .infoFrameEscape [0x01, 0x11, 0x41])) rowView =
        some ⟨.idle, [], [0x10, 0x12], 5, 0x008⟩ ∧
      after (exec (.evRxByte 0x11) (inState .infoFrameEscape [0x01, 0x11, 0x41])) rowView =
        some ⟨.infoFrame, [0x01, 0x11, 0x41], [], 0, 0⟩ ∧
      after (exec (.evRxByte 0x00) (inState .infoFrameEscape [0x01, 0x11, 0x41])) rowView =
        some ⟨.seqNo, [], [], 4, 0x040⟩ ∧
      after (exec (.evRxByte 0x12) (inState .infoFrameEscape [0x01, 0x11, 0x41])) rowView =
        some ⟨.infoFrame, [0x01, 0x11, 0x41], [], 2, 0x040⟩ := by decide

/-- The counter each row counts, in one list per row (Section 2.3's last column). -/
theorem test_rx_counters :
    after (exec (.evRxByte 0x11) (inState .idle [])) counters =
        some [0, 0, 0, 0, 0, 0, 1, 0, 0, 0, 0, 0, 0, 0, 0, 0] ∧
      after (exec (.evRxByte 0x22) (inState .type [0x01])) counters =
        some [0, 0, 0, 0, 1, 0, 0, 0, 0, 0, 0, 0, 0, 0, 0, 0] ∧
      after (exec (.evRxByte 0x12) (inState .infoFrameEscape [0x01, 0x11])) counters =
        some [0, 0, 0, 0, 0, 1, 0, 0, 0, 0, 0, 0, 0, 0, 0, 0] ∧
      after (exec (.evRxByte 0x00) (inState .infoFrameEscape [0x01, 0x11])) counters =
        some [0, 0, 0, 0, 0, 0, 0, 1, 0, 0, 0, 0, 0, 0, 0, 0] ∧
      after (exec (.evRxByte 0x12) (inState .idleEscape [])) counters =
        some [0, 0, 0, 0, 0, 0, 0, 0, 0, 0, 0, 1, 0, 0, 0, 0] := by decide

/-- EN = 0: a received byte has no effect. -/
theorem test_rx_disabled : after (exec (.evRxByte 0x10) State.reset) rowView = some ⟨.idle, [], [], 0, 0⟩ := by decide

/-- RXBUF_MAX = 8: the ninth logical byte overflows. -/
theorem test_rx_overflow :
    after
        (exec (.evRxByte 0x47)
          { inState .infoFrame [0x01, 0x11, 0x41, 0x42, 0x43, 0x44, 0x45, 0x46] with
            params := { Config.params with rxbufMax := 8 } })
        rowView = some ⟨.idle, [], [0x10, 0x12], 8, 0x040⟩ := by decide

/-! ## The guard (Section 2.4) -/

theorem test_guard_accept :
    after (exec .rxIfescEof (inState .infoFrameEscape asmA)) (fun t => (t.txOut, t.last, t.irqPending, t.lastEvt)) =
      some ([0x10, 0x11], some lastA, 0x001, 0) := by decide

theorem test_guard_replay_and_conflict :
    after (exec .rxIfescEof { inState .infoFrameEscape asmA with last := some lastA })
        (fun t => (t.txOut, t.lastEvt, t.rxq)) = some ([0x10, 0x11], 6, []) ∧
      after
          (exec .rxIfescEof
            { inState .infoFrameEscape [0x01, 0x11, 0x42, 0x0A, 0xC8, 0x03] with last := some lastA })
          (fun t => (t.txOut, t.lastEvt, t.last)) = some ([0x10, 0x12], 7, some lastA) := by decide

/-- CRC bytes zero; a short frame with a right CRC; a frame of two bytes. -/
theorem test_guard_crc_error :
    after (exec .rxIfescEof (inState .infoFrameEscape [0x01, 0x11, 0x41, 0x0A, 0x00, 0x00]))
        (fun t => (t.crcErrCrcWord, t.crcErrHdrWord, t.lastEvt)) = some (0x00009D50, 0x00061101, 5) ∧
      after (exec .rxIfescEof (inState .infoFrameEscape [0x09, 0x91, 0x29]))
        (fun t => (t.crcErrCrcWord, t.crcErrHdrWord, t.lastEvt)) = some (0x91299129, 0x00039109, 5) ∧
      after (exec .rxIfescEof (inState .infoFrameEscape [0x01, 0x11]))
        (fun t => (t.crcErrCrcWord, t.crcErrHdrWord, t.lastEvt)) = some (0x01110000, 0x00021101, 5) := by decide

theorem test_guard_overrun :
    after
        (exec .rxIfescEof
          { inState .infoFrameEscape [0x02, 0x11, 0x42, 0x0A, 0x53, 0xDF] with
            params := { Config.params with rxqDepth := 1 }
            last := some lastA
            rxq := [{ seq := 0x01, marker := 0x11, payload := [0x41, 0x0A] }]
            irqPending := 0x001 })
        (fun t => (t.txOut, t.statusWord, t.lastEvt, t.irqPending, t.last)) =
      some ([0x10, 0x12], 0x000100A8, 9, 0x081, some lastA) := by decide

/-! ## The send queue (Section 2.5) -/

theorem test_enqueue :
    after (exec .cmdEnqueue { enabled with stage := [0x41] })
        (fun t => (t.txOut, t.txq, t.statusWord, t.txSeq)) = some (frameA.wire, [frameA], 0x00000110, 2) ∧
      after (exec .cmdEnqueue { sendingA with stage := [0x42], elapsed := 2 })
        (fun t => (t.txOut, t.txq, t.elapsed, t.txSeq)) = some ([], [frameA, frameB], 2, 3) := by decide

/-- TXDIR = 1; sequence wrap. -/
theorem test_enqueue_fields :
    after (exec .cmdEnqueue { enabled with ctrl := { enabled.ctrl with txdir := true }, stage := [0x5A] })
        (fun t => t.txOut) = some [0x10, 0x00, 0x01, 0x91, 0x5A, 0x0A, 0x79, 0x83, 0x10, 0xFF] ∧
      after (exec .cmdEnqueue { enabled with txSeq := 0xFF, stage := [0x58] }) (fun t => (t.txOut, t.txSeq)) =
        some ([0x10, 0x00, 0xFF, 0x11, 0x58, 0x0A, 0x19, 0xAC, 0x10, 0xFF], 0x00) := by decide

theorem test_tick :
    after (exec .evTick { sendingA with elapsed := 1 }) (fun t => (t.txOut, t.elapsed, t.tries)) = some ([], 2, 0) ∧
      after (exec .evTick { sendingA with elapsed := 2 }) (fun t => (t.txOut, t.elapsed, t.tries)) =
        some (frameA.wire, 0, 1) := by decide

/-- T = 2, M = 3: the drop at tick 15. -/
theorem test_tick_drop :
    after (exec .evTick { sendingA with elapsed := 2, tries := 4 })
        (fun t => (t.txOut, t.dropInfoWord, t.lastEvt, t.txq)) = some ([], 0x00001101, 10, []) := by decide

theorem test_ack_and_nak :
    after (exec .rxIescAck sendingAB) (fun t => (t.txOut, t.txq, t.irqPending)) =
        some (frameB.wire, [frameB], 0x002) ∧
      after (exec .rxIfescAck { sendingA with rxState := .infoFrameEscape, asm := [0x01, 0x11, 0x41] })
        (fun t => (t.txq, t.rxState, t.asm)) = some ([], .infoFrame, [0x01, 0x11, 0x41]) ∧
      after (exec .rxIescNak sendingA) (fun t => (t.txOut, t.txq, t.tries)) = some ([], [frameA], 0) := by decide

/-- T = 0, M = 0: the NAK past the limit. -/
theorem test_nak_past_limit :
    after (exec .rxIescNak { sendingAB with maxTries := 0, tries := 1 })
        (fun t => (t.txOut, t.dropInfoWord, t.lastEvt, t.tries)) =
      some (frameB.wire, 0x00011101, 11, 0) := by decide

/-! ## The host interface (Section 2.6) -/

theorem test_field_masking :
    after (exec (.wrCtrl 0xFFFFFFFF) enabled) (fun t => t.ctrlWord) = some 0x0000000F ∧
      after (exec (.wrMaxTries 0x000001FF) enabled) (fun t => t.maxTriesWord) = some 0x000000FF ∧
      after (exec (.wrTimeout 0x00012345) enabled) (fun t => t.timeoutWord) = some 0x00002345 ∧
      after (exec (.wrTxSeq 0x00000100) enabled) (fun t => t.txSeqWord) = some 0x00000000 ∧
      after (exec (.wrIgnored 0x04 0xFFFFFFFF) enabled) (fun t => t.statusWord) = some 0x00000000 ∧
      after (exec (.wrIrqEnable 0xFFFFFFFF) enabled) (fun t => t.irqEnableWord) = some 0x000001FF := by decide

theorem test_irq_pending_write :
    after (exec (.wrIrqPending 0x00000000) { enabled with irqPending := 0x100, irqEnable := 0x1FF })
        (fun t => (t.irqPending, t.irqOut)) = some (0x100, true) ∧
      after (exec (.wrIrqPending 0xFFFFFFFF) { enabled with irqPending := 0x100, irqEnable := 0x1FF })
        (fun t => (t.irqPending, t.irqOut)) = some (0x000, false) := by decide

theorem test_reads_after_reset :
    [Instr.rdCtrl, .rdStatus, .rdMaxTries, .rdTimeout, .rdTxSeq, .rdCap0, .rdCap1, .rdLastAcc, .rdReserved0C0 0xFC].map
        (fun i => lastAnswer (exec i State.reset)) =
      [some (.data 0x0000000C), some (.data 0x00000000), some (.data 0x00000003), some (.data 0x00000002),
        some (.data 0x00000001), some (.data 0x00200040), some (.data 0x00000404), some (.data 0), some (.data 0)] := by
  decide

/-- The RX_DATA reads after 01 11 "A\n" was delivered. -/
theorem test_rx_data :
    [0, 1, 2].map
        (fun k => lastAnswer
          (exec .rdRxData { enabled with rxq := [{ seq := 1, marker := 0x11, payload := [0x41, 0x0A] }], rdPtr := k })) =
      [some (.data 0x80000041), some (.data 0x8000000A), some (.data 0x00000000)] := by decide

theorem test_composite_reads :
    lastAnswer (exec .rdRxInfo { enabled with rxq := [{ seq := 1, marker := 0x11, payload := [0x41, 0x0A] }] }) =
        some (.data 0x00021101) ∧
      lastAnswer (exec .rdLastAcc { enabled with last := some lastA }) = some (.data 0x00061101) ∧
      lastAnswer (exec (.hostBusError (.read 0x02 4)) enabled) = some (.busError 0x02 4) := by decide

theorem test_rejections :
    after (exec .cmdEnqueue { State.reset with stage := [0x41] })
        (fun t => (t.lastEvt, t.irqPending, t.stage, t.txOut)) = some (12, 0x100, [0x41], []) ∧
      after (exec .cmdRxPop enabled) (fun t => (t.lastEvt, t.irqPending)) = some (12, 0x100) ∧
      after (exec (.wrTxData 0x21)
          { enabled with stage := [0x57, 0x58, 0x59, 0x5A], params := { Config.params with txPayloadMax := 4 } })
        (fun t => (t.lastEvt, t.stage)) = some (12, [0x57, 0x58, 0x59, 0x5A]) ∧
      after (exec (.wrCmd 0x00000011) enabled) (fun t => (t.lastEvt, t.irqPending)) = some (12, 0x100) := by decide

theorem test_link_reset :
    after (exec .cmdLinkReset { sendingAB with stage := [0x51], irqPending := 0x100 })
        (fun t => (t.statusWord, t.txSeq, t.stage, t.ctrl, t.irqPending, t.cnt.txDrop)) =
      some (0, 1, [], sendingAB.ctrl, 0x100, 0) := by decide

/-! ## Traces (R113, R114) -/

theorem test_trace_send :
    traceEvents [.enable, .send [0x41], .rxack, .ticks 2] =
      [.host (.write 0x00 4 0x0000000D), .host (.write 0x20 4 0x00000041), .host (.write 0x24 4 0x00000001),
        .rxByte 0x10, .rxByte 0x11, .tick, .tick] := by decide

/-! ## Witnesses: for every statement with hypotheses, a state and operands that meet them, clause by clause -/

theorem witness_DecodeEncodeAgree :
    (Instr.rxTypeBad 0x11).wellFormed ⟨false, true⟩ = true ∧ Instr.rxTypeMk11.wellFormed ⟨true, false⟩ = true ∧
      (Instr.cmdReserved 6).wellFormed Markers.both = true ∧
      (Instr.hostBusError (.read 0xFF 4)).wellFormed Markers.both = true ∧
      (Instr.rdReserved0C0 0xFC).wellFormed Markers.both = true ∧
      (Instr.wrIgnored 0x48 0).wellFormed Markers.both = true := by decide

theorem witness_DecodedOperationsEncodeBack :
    decode Markers.both (.rx 0x6FF) = .ok .rxIfescEof ∧ decode Markers.both (.cmd 6) = .ok (.cmdReserved 6) := by
  decide

theorem witness_StepRunsDecodedOperation :
    State.reset.input = [] ∧
      ((withInput enabled [.tick]).input = .tick :: [] ∧
        decode enabled.markers (.event .tick) = .ok .evTick) ∧
      ((withInput enabled [.rxByte 0x10]).input = .rxByte 0x10 :: [] ∧ enabled.ctrl.en = true ∧
        decode enabled.markers (.rx (rxWord enabled.rxState 0x10)) = .ok .rxIdleEsc) ∧
      ((withInput enabled [.host (.write 0x24#8 4 4#32)]).input = .host (.write 0x24#8 4 4#32) :: [] ∧
        decode enabled.markers (.cmd 4#32) = .ok .cmdLinkReset) := by decide

theorem witness_ReceivedByteRunsItsRow :
    State.reset.ctrl.en = false ∧
      (inState .infoFrameEscape [0x01, 0x11]).rxState = .infoFrameEscape ∧
      2 ≤ (inState .infoFrameEscape [0x01, 0x11]).asm.length ∧
      ∀ st ∈ [RxState.idle, .idleEscape, .seqNo, .seqNoEscape, .type, .infoFrame, .infoFrameEscape],
        ReceivesIn (inState st []) st := by decide

theorem witness_EscapeByteEntersEscapeState :
    ReceivesIn (inState .idle []) .idle ∧ ReceivesIn (inState .seqNo []) .seqNo ∧
      ReceivesIn (inState .infoFrame [0x01, 0x11]) .infoFrame := by decide

theorem witness_StrayByteIsCountedAndNoted :
    (ReceivesIn (inState .idle []) .idle ∧ (0xFF#8 : Byte) ≠ 0x10#8) ∧ (0x00#8 : Byte) ≠ 0x10#8 := by decide

theorem witness_IdleEscapeStartsFrameOrReturns :
    ReceivesIn (inState .idleEscape []) .idleEscape ∧
      (0x13#8 : Byte) ≠ 0x00#8 ∧ (0x13#8 : Byte) ≠ 0x11#8 ∧ (0x13#8 : Byte) ≠ 0x12#8 := by decide

theorem witness_AckDequeuesHeadAndSendsNext :
    (ReceivesIn (inState .idleEscape []) .idleEscape ∧ (inState .idleEscape []).txq = []) ∧
      (ReceivesIn { sendingA with rxState := .idleEscape } .idleEscape ∧ sendingA.txq = [frameA]) ∧
      (ReceivesIn { sendingAB with rxState := .idleEscape } .idleEscape ∧ sendingAB.txq = frameA :: frameB :: []) := by
  decide

theorem witness_NakDropsOnlyExhaustedHead :
    (ReceivesIn { sendingA with rxState := .idleEscape, tries := 3 } .idleEscape ∧
        ({ sendingA with tries := 3 } : State).tries.toNat ≤ sendingA.maxTries.toNat) ∧
      (sendingA.txq = [frameA] ∧
        sendingA.maxTries.toNat < ({ sendingA with tries := 4 } : State).tries.toNat) ∧
      (sendingAB.txq = frameA :: frameB :: [] ∧
        sendingAB.maxTries.toNat < ({ sendingAB with tries := 4 } : State).tries.toNat) := by decide

theorem witness_SequenceByteIsStored :
    (inState .seqNo []).asm.length ≠ (inState .seqNo []).params.rxbufMax ∧
      (ReceivesIn (inState .seqNo []) .seqNo ∧ (0x11#8 : Byte) ≠ 0x10#8) ∧
      ReceivesIn (inState .seqNoEscape []) .seqNoEscape := by decide

theorem witness_BadEscapeIsDiscarded :
    (ReceivesIn (inState .seqNoEscape []) .seqNoEscape ∧ (0x0F#8 : Byte) ≠ 0x10#8) ∧
      (ReceivesIn (inState .infoFrameEscape [0x01, 0x11]) .infoFrameEscape ∧ (0x12#8 : Byte) ≠ 0x10#8 ∧
        (0x12#8 : Byte) ≠ 0xFF#8 ∧ (0x12#8 : Byte) ≠ 0x11#8 ∧ (0x12#8 : Byte) ≠ 0x00#8) := by decide

theorem witness_KnownMarkerIsStored :
    (inState .type [0x01]).asm.length ≠ (inState .type [0x01]).params.rxbufMax ∧
      (ReceivesIn (inState .type [0x01]) .type ∧ (inState .type [0x01]).ctrl.acc11 = true) ∧
      (ReceivesIn (inState .type [0x01]) .type ∧ (inState .type [0x01]).ctrl.acc91 = true) := by decide

/-- A byte that is no marker, and a marker that is switched off. -/
theorem witness_UnknownMarkerIsNaked :
    (ReceivesIn (inState .type [0x01]) .type ∧
        ¬ ((0x22#8 : Byte) = 0x11#8 ∧ (inState .type [0x01]).ctrl.acc11 = true) ∧
        ¬ ((0x22#8 : Byte) = 0x91#8 ∧ (inState .type [0x01]).ctrl.acc91 = true)) ∧
      (let s := { inState .type [0x01] with ctrl := { enabled.ctrl with acc11 := false } }
       ReceivesIn s .type ∧ ¬ ((0x11#8 : Byte) = 0x11#8 ∧ s.ctrl.acc11 = true) ∧
        ¬ ((0x11#8 : Byte) = 0x91#8 ∧ s.ctrl.acc91 = true)) := by decide

/-- One byte below the capacity, and at it. -/
theorem witness_FrameByteIsStoredOrOverflows :
    ∀ n ∈ [63, 64],
      (ReceivesIn (inState .infoFrame (List.replicate n 0x41)) .infoFrame ∧ (0xFF#8 : Byte) ≠ 0x10#8) ∧
        ReceivesIn (inState .infoFrameEscape (List.replicate n 0x41)) .infoFrameEscape := by decide

theorem witness_FullBufferOverflows :
    ∀ st ∈ [RxState.seqNo, .seqNoEscape, .type, .infoFrame, .infoFrameEscape],
      (inState st (List.replicate 64 0x41)).asm.length = enabled.params.rxbufMax ∧
        ReceivesIn (inState st (List.replicate 64 0x41)) st ∧ enabled.ctrl.acc11 = true ∧
        enabled.ctrl.acc91 = true := by decide

theorem witness_AckInsideFrameKeepsFrame :
    (ReceivesIn (inState .infoFrameEscape [0x01, 0x11]) .infoFrameEscape ∧
        (inState .infoFrameEscape [0x01, 0x11]).txq = []) ∧
      (ReceivesIn { sendingA with rxState := .infoFrameEscape } .infoFrameEscape ∧ sendingA.txq = [frameA]) ∧
      (ReceivesIn { sendingAB with rxState := .infoFrameEscape } .infoFrameEscape ∧
        sendingAB.txq = frameA :: frameB :: []) := by decide

theorem witness_StartMarkerAbandonsFrame :
    ReceivesIn (inState .infoFrameEscape [0x01, 0x11]) .infoFrameEscape := by decide

/-- A frame of 3 bytes whose CRC is right, and a frame of 6 whose CRC is wrong. -/
theorem witness_BadCrcOrShortFrameIsNaked :
    (let s := inState .infoFrameEscape [0x09, 0x91, 0x29]
     s.asm = [0x09] ++ [0x91#8, 0x29#8] ∧ s.asm = 0x09 :: 0x91 :: [0x29] ∧ s.asm.length < 4 ∧
      ReceivesIn s .infoFrameEscape) ∧
      (let s := inState .infoFrameEscape [0x01, 0x11, 0x41, 0x0A, 0x00, 0x00]
       s.asm = [0x01, 0x11, 0x41, 0x0A] ++ [0x00#8, 0x00#8] ∧ s.asm = 0x01 :: 0x11 :: [0x41, 0x0A, 0x00, 0x00] ∧
        crc16 [0x01, 0x11, 0x41, 0x0A] ≠ 0x00#8 ++ 0x00#8 ∧ ReceivesIn s .infoFrameEscape) := by decide

/-- Frame 01 11 "A\n" after nothing was accepted, and frame 02 after it. -/
theorem witness_NewFrameIsAccepted :
    ((inState .infoFrameEscape asmA).asm = 0x01 :: 0x11 :: [0x41, 0x0A] ++ [0x9D#8, 0x50#8] ∧
        crc16 (0x01 :: 0x11 :: [0x41, 0x0A]) = 0x9D#8 ++ 0x50#8 ∧
        (inState .infoFrameEscape asmA).last = none ∧
        (inState .infoFrameEscape asmA).rxq.length ≠ enabled.params.rxqDepth ∧
        ReceivesIn (inState .infoFrameEscape asmA) .infoFrameEscape) ∧
      crc16 (0x02 :: 0x11 :: [0x42, 0x0A]) = 0x53#8 ++ 0xDF#8 ∧
      (∀ l, some lastA = some l → l.seq ≠ 0x02) := by
  refine ⟨by decide, by decide, ?_⟩
  rintro _ ⟨⟩; decide

theorem witness_FullFifoRefusesNewFrame :
    let s := { inState .infoFrameEscape [0x02, 0x11, 0x42, 0x0A, 0x53, 0xDF] with
      last := some lastA
      rxq := List.replicate 4 { seq := 0x01, marker := 0x11, payload := [0x41, 0x0A] } }
    (s.asm = 0x02 :: 0x11 :: [0x42, 0x0A] ++ [0x53#8, 0xDF#8] ∧
      crc16 (0x02 :: 0x11 :: [0x42, 0x0A]) = 0x53#8 ++ 0xDF#8 ∧ s.rxq.length = s.params.rxqDepth ∧
      ReceivesIn s .infoFrameEscape) ∧ ∀ l, s.last = some l → l.seq ≠ 0x02 := by
  refine ⟨by decide, ?_⟩
  rintro _ ⟨⟩; decide

theorem witness_ReplayIsAckedNotDelivered :
    let s := { inState .infoFrameEscape asmA with last := some lastA }
    s.asm = 0x01 :: 0x11 :: [0x41, 0x0A] ++ [0x9D#8, 0x50#8] ∧
      crc16 (0x01 :: 0x11 :: [0x41, 0x0A]) = 0x9D#8 ++ 0x50#8 ∧
      s.last = some { seq := 0x01, marker := 0x11, body := [0x41, 0x0A] ++ [0x9D#8, 0x50#8] } ∧
      ReceivesIn s .infoFrameEscape := by decide

theorem witness_ConflictIsNaked :
    let s := { inState .infoFrameEscape [0x01, 0x11, 0x42, 0x0A, 0xC8, 0x03] with last := some lastA }
    s.asm = 0x01 :: 0x11 :: [0x42, 0x0A] ++ [0xC8#8, 0x03#8] ∧
      crc16 (0x01 :: 0x11 :: [0x42, 0x0A]) = 0xC8#8 ++ 0x03#8 ∧ s.last = some lastA ∧ lastA.seq = 0x01 ∧
      lastA ≠ { seq := 0x01, marker := 0x11, body := [0x42, 0x0A] ++ [0xC8#8, 0x03#8] } ∧
      ReceivesIn s .infoFrameEscape := by decide

theorem witness_OneByteChangeChangesCrc : (0x00#8 : Byte) ≠ 0x80#8 := by decide

theorem witness_FrameLengthBounds : IsMarker 0x11 ∧ IsMarker 0x91 := by decide

/-- The last tick that only counts; the first past the timeout, at the last try that is retransmitted and at the first
that is not; and the largest `elapsed`. -/
theorem witness_TickCountsRetransmitsOrDrops :
    State.reset.ctrl.en = false ∧ enabled.txq = [] ∧
      (sendingA.ctrl.en = true ∧ sendingA.txq ≠ [] ∧
        ({ sendingA with elapsed := 1 } : State).elapsed.toNat + 1 ≤ sendingA.timeout.toNat) ∧
      (let s := { sendingA with elapsed := 2, tries := 3 }
       s.ctrl.en = true ∧ s.elapsed.toNat ≤ 65536 ∧ s.timeout.toNat < s.elapsed.toNat + 1 ∧ s.txq = frameA :: [] ∧
        s.tries.toNat ≤ s.maxTries.toNat ∧ ({ s with elapsed := 65536 } : State).elapsed.toNat ≤ 65536) ∧
      (let s := { sendingA with elapsed := 2, tries := 4 }
       s.ctrl.en = true ∧ s.elapsed.toNat ≤ 65536 ∧ s.timeout.toNat < s.elapsed.toNat + 1 ∧ s.txq = [frameA] ∧
        s.maxTries.toNat < s.tries.toNat ∧
        ({ s with txq := [frameA, frameB] } : State).txq = frameA :: frameB :: []) := by decide

theorem witness_EnqueueEncodesAndSendsWhenIdle :
    State.reset.ctrl.en = false ∧
      ({ sendingA with txq := [frameA, frameB, frameA, frameB] } : State).txq.length = sendingA.params.txqDepth ∧
      (enabled.ctrl.en = true ∧ enabled.txq.length ≠ enabled.params.txqDepth ∧ enabled.txq = []) ∧
      (let s := { sendingAB with txq := [frameA, frameB, frameA] }
       s.ctrl.en = true ∧ s.txq.length ≠ s.params.txqDepth ∧ s.txq ≠ []) := by decide

theorem witness_RefusedRequestOnlyNotes :
    State.reset.ctrl.en = false ∧
      ({ sendingA with txq := [frameA, frameB, frameA, frameB] } : State).txq.length = sendingA.params.txqDepth ∧
      enabled.rxq = [] ∧
      ({ enabled with stage := List.replicate 32 0x41 } : State).stage.length = enabled.params.txPayloadMax ∧
      6 ≤ (6#32).toNat := by decide

theorem witness_PlainCommandsDoOnlyTheirPart :
    let m : RxMsg := { seq := 0x01, marker := 0x11, payload := [] }
    ({ enabled with rxq := [m] } : State).rxq = m :: [] ∧ enabled.rxq = [] := by decide

theorem witness_DataWriteStagesOrIsRefused :
    ({ enabled with stage := List.replicate 31 0x41 } : State).stage.length ≠ enabled.params.txPayloadMax ∧
      ({ enabled with stage := List.replicate 32 0x41 } : State).stage.length = enabled.params.txPayloadMax := by decide

/-- Each field at the largest length it is stated for. -/
theorem witness_CompositeReadsShowTheirFields :
    State.reset.last = none ∧ State.reset.rxq = [] ∧ State.reset.params.Legal ∧
      (let l : LastFrame := { seq := 0x01, marker := 0x11, body := List.replicate 65533 0 }
       ({ enabled with last := some l } : State).last = some l ∧ l.bytes.length ≤ 65535) ∧
      (let m : RxMsg := { seq := 0x01, marker := 0x11, payload := List.replicate 65531 0 }
       ({ enabled with rxq := [m] } : State).rxq = m :: [] ∧ m.payload.length ≤ 65535) ∧
      ({ enabled with stage := List.replicate 65534 0 } : State).stage.length ≤ 65535 ∧
      ({ enabled with asm := List.replicate 65535 0 } : State).asm.length ≤ 65535 := by
  refine ⟨rfl, rfl, by decide, ⟨rfl, ?_⟩, ⟨rfl, ?_⟩, ?_, ?_⟩ <;>
    simp only [LastFrame.bytes, List.length_cons, List.length_replicate] <;> omega

/-- The last byte of a payload, an empty FIFO, and the place behind the last byte. -/
theorem witness_RxDataReadReturnsNextByte :
    let m : RxMsg := { seq := 0x01, marker := 0x11, payload := [0x41, 0x0A] }
    (({ enabled with rxq := [m], rdPtr := 1 } : State).rdPtr.toNat < m.payload.length ∧
        ({ enabled with rxq := [m], rdPtr := 1 } : State).rxq = m :: []) ∧
      enabled.rxq = [] ∧ m.payload.length ≤ ({ enabled with rxq := [m], rdPtr := 2 } : State).rdPtr.toNat := by decide

theorem witness_ReservedSpaceReadsZeroAndIgnoresWrites :
    ∀ off ∈ [0x58#8, 0x7C#8, 0xC0#8, 0xFC#8],
      off.toNat % 4 = 0 ∧ (0x58 ≤ off.toNat ∧ off.toNat ≤ 0x7C ∨ 0xC0 ≤ off.toNat) ∧
        off ∉ [0x00#8, 0x08#8, 0x0C#8, 0x10#8, 0x20#8, 0x24#8, 0x40#8, 0x44#8] := by decide

theorem witness_UndefinedAccessIsBusError :
    ((3 : Nat) ≠ 4 ∨ (0x00#8 : Offset).toNat % 4 ≠ 0) ∧ ((4 : Nat) ≠ 4 ∨ (0xFF#8 : Offset).toNat % 4 ≠ 0) := by decide

theorem witness_RegisterReadsAfterReset :
    (⟨4, 1, 1, 1, 0, 0, 0⟩ : Params).Legal ∧ (⟨65535, 65534, 255, 255, 0xFFFF, 0, 0⟩ : Params).Legal ∧
      (0xFC#8 : Offset).toNat % 4 = 0 := by decide

theorem witness_ResetStateKeepsInvariants : (⟨4, 1, 1, 1, 0, 0, 0⟩ : Params).Legal := by decide

/-! ### States with the invariants -/

/-- A busy block: frame A in flight and retried once, a message half read, a byte staged. -/
def busy (st : RxState) (asm : List Byte) (evs : List Event) : State :=
  { enabled with
    rxState := st, asm := asm, input := evs
    last := some lastA
    txq := [frameA], tries := 1, elapsed := 2, txSeq := 2
    stage := [0x5A]
    rxq := [{ seq := 0x01, marker := 0x11, payload := [0x41, 0x0A] }], rdPtr := 1
    irqPending := 0x101, lastEvt := 12 }

theorem busy_idle_empty : (busy .idle [] []).Inv where
  params_legal := by decide
  asm_len := rfl
  asm_cap := by decide
  asm_marker := by intro m h; cases h
  last_ok := by rintro _ ⟨⟩; decide
  txq_len := by decide
  txq_wire := by
    intro f hf
    cases List.mem_singleton.mp hf
    exact ⟨by decide, [0x41], by decide, by decide⟩
  idle_counters := by intro h; cases h
  tries_le := by decide
  elapsed_le := by decide
  stage_len := by decide
  rxq_len := by decide
  rxq_msg := by
    intro m hm
    cases List.mem_singleton.mp hm
    decide
  rd_ptr := by decide
  evt_le := by decide

/-- Every receive state with a fitting buffer makes it a state with the invariants. -/
theorem busy_inv (st : RxState) (asm : List Byte) (evs : List Event) (h1 : AsmLenOk st asm.length)
    (h2 : asm.length ≤ 64) (h3 : ∀ m, asm[1]? = some m → IsMarker m) : (busy st asm evs).Inv where
  params_legal := busy_idle_empty.params_legal
  asm_len := h1
  asm_cap := h2
  asm_marker := h3
  last_ok := busy_idle_empty.last_ok
  txq_len := busy_idle_empty.txq_len
  txq_wire := busy_idle_empty.txq_wire
  idle_counters := busy_idle_empty.idle_counters
  tries_le := busy_idle_empty.tries_le
  elapsed_le := busy_idle_empty.elapsed_le
  stage_len := busy_idle_empty.stage_len
  rxq_len := busy_idle_empty.rxq_len
  rxq_msg := busy_idle_empty.rxq_msg
  rd_ptr := busy_idle_empty.rd_ptr
  evt_le := busy_idle_empty.evt_le

theorem busy_idle (evs : List Event) : (busy .idle [] evs).Inv :=
  busy_inv _ _ _ rfl (by decide) (by intro m h; cases h)

theorem witness_SequenceByteIsStored_cannot_overflow :
    ((busy .seqNo [] []).Inv ∧ (busy .seqNo [] []).rxState = .seqNo) ∧
      (busy .seqNoEscape [] []).Inv ∧ (busy .seqNoEscape [] []).rxState = .seqNoEscape :=
  ⟨⟨busy_inv _ _ _ rfl (by decide) (by intro m h; cases h), rfl⟩,
    busy_inv _ _ _ rfl (by decide) (by intro m h; cases h), rfl⟩

theorem witness_KnownMarkerIsStored_cannot_overflow :
    (busy .type [0x01] []).Inv ∧ (busy .type [0x01] []).rxState = .type :=
  ⟨busy_inv _ _ _ rfl (by decide) (by intro m h; cases h), rfl⟩

theorem witness_StepKeepsInvariants :
    (busy .idle [] [.rxByte 0x10]).Inv ∧ ∃ t, step (busy .idle [] [.rxByte 0x10]) = .next t :=
  ⟨busy_idle _, _, rfl⟩

theorem witness_StepNeverStops :
    (busy .idle [] [.tick]).Inv ∧ (inState .infoFrameEscape [0x01]).asm.length < 2 :=
  ⟨busy_idle _, by decide⟩

theorem witness_StepOnlyAppendsToOutputs : ∃ t, step (withInput sendingA [.tick]) = .next t := ⟨_, rfl⟩

/-- One witness for each of the three ways `last` changes. -/
theorem witness_LastFrameChangesOnlyByAcceptance :
    (∃ t, exec .rxIfescEof (inState .infoFrameEscape asmA) = .next t) ∧ (∃ t, step (withInput (inState .infoFrameEscape asmA) [.rxByte 0xFF#8]) = .next t ∧
        t.last ≠ (withInput (inState .infoFrameEscape asmA) [.rxByte 0xFF#8]).last) ∧
      (∃ t, step (busy .idle [] [.host (.write 0x24#8 4 4#32)]) = .next t ∧
        t.last ≠ (busy .idle [] [.host (.write 0x24#8 4 4#32)]).last) ∧
      ∃ t, step (busy .idle [] [.reset]) = .next t ∧ t.last ≠ (busy .idle [] [.reset]).last :=
  ⟨⟨_, rfl⟩, ⟨_, rfl, by decide⟩, ⟨_, rfl, by decide⟩, ⟨_, rfl, by decide⟩⟩

theorem witness_PendingBitsAreSticky :
    (∃ t, step (busy .idle [] [.reset]) = .next t ∧ (busy .idle [] [.reset]).irqPending.getLsbD 8 = true ∧
        t.irqPending.getLsbD 8 = false) ∧
      ∃ t, step (busy .idle [] [.host (.write 0x40#8 4 0x100#32)]) = .next t ∧
        (busy .idle [] [.host (.write 0x40#8 4 0x100#32)]).irqPending.getLsbD 8 = true ∧
        t.irqPending.getLsbD 8 = false :=
  ⟨⟨_, rfl, by decide⟩, ⟨_, rfl, by decide⟩⟩

/-- A frame enqueued into an empty queue, and a head acknowledged before a second frame. -/
theorem witness_NewHeadIsSentInSameEvent :
    (∃ t g r, step (withInput { enabled with stage := [0x41] } [.host (.write 0x24 4 1)]) = .next t ∧
        t.txq = g :: r ∧ enabled.txq.head? ≠ some g) ∧
      ∃ t g r, step (withInput { sendingAB with rxState := .idleEscape } [.rxByte 0x11]) = .next t ∧
        t.txq = g :: r ∧ sendingAB.txq.head? ≠ some g :=
  ⟨⟨_, _, _, rfl, rfl, by decide⟩, ⟨_, _, _, rfl, rfl, by decide⟩⟩

/-- One witness for each receive state; in InfoFrameEscape two bytes below the capacity. -/
theorem witness_StartPairResynchronises :
    let evs : List Event := .rxByte 0x10#8 :: .rxByte 0x00#8 :: []
    (∀ st ∈ [RxState.idle, .idleEscape, .seqNo, .seqNoEscape],
        (busy st [] evs).Inv ∧ (busy st [] evs).ctrl.en = true ∧ (busy st [] evs).rxState = st) ∧
      ((busy .type [0x01] evs).Inv ∧ (busy .type [0x01] evs).ctrl.en = true) ∧
      ((busy .infoFrame [0x01, 0x11] evs).Inv ∧ (busy .infoFrame [0x01, 0x11] evs).ctrl.en = true) ∧
      ((busy .infoFrameEscape (0x01 :: 0x11 :: List.replicate 60 0x41) evs).Inv ∧
        (busy .infoFrameEscape (0x01 :: 0x11 :: List.replicate 60 0x41) evs).asm.length + 2 ≤
          enabled.params.rxbufMax) := by
  intro evs
  refine ⟨?_, ⟨?_, rfl⟩, ⟨?_, rfl⟩, ?_, by decide⟩
  · intro st hst
    refine ⟨busy_inv _ _ _ ?_ (by decide) (by intro m h; cases h), rfl, rfl⟩
    revert hst; cases st <;> first | (intro _; rfl) | (intro h; exact absurd h (by decide))
  · exact busy_inv _ _ _ rfl (by decide) (by intro m h; cases h)
  · exact busy_inv _ _ _ (by decide : 2 ≤ 2) (by decide) (by rintro _ ⟨⟩; decide)
  · exact busy_inv _ _ _ (by decide : 2 ≤ 62) (by decide) (by rintro _ ⟨⟩; decide)

/-- A payload of escape bytes that just fits, after a frame with another number was accepted. -/
theorem witness_SentFrameIsDelivered :
    let s := withInput { enabled with last := some lastA } ((wrap 0x10 0x91 (List.replicate 60 0x10)).map .rxByte)
    (ReceivesIn s .idle ∧ s.markers.known 0x91 = true ∧ s.rxq.length ≠ s.params.rxqDepth ∧
      (List.replicate 60 (0x10 : Byte)).length + 4 ≤ s.params.rxbufMax) ∧
      (∀ l, s.last = some l → l.seq ≠ 0x10) ∧
      s.input = (wrap 0x10 0x91 (List.replicate 60 0x10)).map .rxByte ++ [] := by
  refine ⟨by decide, ?_, (List.append_nil _).symm⟩
  rintro _ ⟨⟩; decide

theorem witness_RepeatedFrameIsDeliveredOnce :
    let w := wrap 0x02 0x11 [0x41, 0x0A]
    let s := withInput { enabled with last := some lastA } ((w ++ w).map .rxByte)
    (ReceivesIn s .idle ∧ s.markers.known 0x11 = true ∧ s.rxq.length ≠ s.params.rxqDepth ∧
      ([0x41, 0x0A] : List Byte).length + 4 ≤ s.params.rxbufMax) ∧
      (∀ l, s.last = some l → l.seq ≠ 0x02) ∧ s.input = (w ++ w).map .rxByte ++ [] := by
  refine ⟨by decide, ?_, (List.append_nil _).symm⟩
  rintro _ ⟨⟩; decide

/-- T = 2, M = 3: both clauses, the first at its last k and j. -/
theorem witness_RetryTimeline :
    (let s := withInput sendingAB (List.replicate (4 * 3 + 2) .tick)
     s.ctrl.en = true ∧ s.txq = frameA :: [frameB] ∧ s.tries = 0 ∧ s.elapsed = 0 ∧
      4 ≤ s.maxTries.toNat + 1 ∧ 2 ≤ s.timeout.toNat ∧
      s.input = List.replicate (4 * (s.timeout.toNat + 1) + 2) .tick ++ []) ∧
      (let s := withInput sendingAB (List.replicate 15 .tick)
       s.txq = frameA :: [frameB] ∧
        s.input = List.replicate ((s.maxTries.toNat + 2) * (s.timeout.toNat + 1)) .tick ++ []) := by decide

theorem witness_HeadLeavesInBoundedTicks :
    let s := busy .idle [] (List.replicate 15 .tick)
    s.Inv ∧ s.ctrl.en = true ∧ s.txq = frameA :: [] ∧
      s.input = List.replicate ((s.maxTries.toNat + 2) * (s.timeout.toNat + 1)) .tick ++ [] :=
  ⟨busy_idle _, rfl, rfl, rfl⟩

end Sys2Proof.Tests
end

/-! The STATUS register (R48): what each field of its word shows, how its offset decodes, and what an access to it does.
The word is a chain of appends with the lowest field last, so a field is reached by skipping the fields below it. -/

namespace Sys2Proof.Machine

/-! ### Bits of an append -/

/-- A bit above the lower part of an append is a bit of the upper part. -/
theorem getLsbD_append_of_le {v w i : Nat} (hi : BitVec v) (lo : BitVec w) (h : w ≤ i) :
    (hi ++ lo).getLsbD i = hi.getLsbD (i - w) := by
  rw [BitVec.getLsbD_append, if_neg (Nat.not_lt.mpr h)]

/-- A flag appended at the bottom is bit 0. -/
theorem getLsbD_append_ofBool {v : Nat} (hi : BitVec v) (b : Bool) : (hi ++ BitVec.ofBool b).getLsbD 0 = b := by
  rw [BitVec.getLsbD_append]; simp

/-! ### The fields of STATUS, from bit 0 up -/

@[simp] theorem State.statusWord_rxState (s : State) : s.statusWord.extractLsb' 0 3 = s.rxState.code := by
  rw [State.statusWord, BitVec.extractLsb'_append_eq_right]

theorem State.statusWord_lastValid (s : State) : s.statusWord.getLsbD 3 = s.lastValid := by
  rw [State.statusWord, getLsbD_append_of_le _ _ (by decide)]
  exact getLsbD_append_ofBool _ _

theorem State.statusWord_txqNonempty (s : State) : s.statusWord.getLsbD 4 = s.txqNonempty := by
  rw [State.statusWord]
  iterate 2 rw [getLsbD_append_of_le _ _ (by decide)]
  exact getLsbD_append_ofBool _ _

theorem State.statusWord_rxqNonempty (s : State) : s.statusWord.getLsbD 5 = s.rxqNonempty := by
  rw [State.statusWord]
  iterate 3 rw [getLsbD_append_of_le _ _ (by decide)]
  exact getLsbD_append_ofBool _ _

theorem State.statusWord_txqFull (s : State) : s.statusWord.getLsbD 6 = s.txqFull := by
  rw [State.statusWord]
  iterate 4 rw [getLsbD_append_of_le _ _ (by decide)]
  exact getLsbD_append_ofBool _ _

theorem State.statusWord_rxqFull (s : State) : s.statusWord.getLsbD 7 = s.rxqFull := by
  rw [State.statusWord]
  iterate 5 rw [getLsbD_append_of_le _ _ (by decide)]
  exact getLsbD_append_ofBool _ _

@[simp] theorem State.statusWord_txqCount (s : State) :
    s.statusWord.extractLsb' 8 8 = BitVec.ofNat 8 s.txq.length := by
  rw [State.statusWord]
  iterate 6 rw [BitVec.extractLsb'_append_eq_of_le (by decide)]
  exact BitVec.extractLsb'_append_eq_right

@[simp] theorem State.statusWord_rxqCount (s : State) :
    s.statusWord.extractLsb' 16 8 = BitVec.ofNat 8 s.rxq.length := by
  rw [State.statusWord]
  iterate 7 rw [BitVec.extractLsb'_append_eq_of_le (by decide)]
  exact BitVec.extractLsb'_append_eq_right

theorem State.statusWord_stageFull (s : State) : s.statusWord.getLsbD 24 = s.stageFull := by
  rw [State.statusWord]
  iterate 8 rw [getLsbD_append_of_le _ _ (by decide)]
  exact getLsbD_append_ofBool _ _

@[simp] theorem State.statusWord_reserved (s : State) : s.statusWord.extractLsb' 25 7 = 0#7 := by
  rw [State.statusWord]
  iterate 8 rw [BitVec.extractLsb'_append_eq_of_le (by decide)]
  exact BitVec.extractLsb'_append_eq_left

/-! ### Accesses to offset 4 -/

theorem decodeEvent_read_status : decodeEvent (.host (.read 0x04#8 4)) = .rdStatus := rfl

theorem decodeEvent_write_status (v : Word) : decodeEvent (.host (.write 0x04#8 4 v)) = .wrIgnored 0x04#8 v := rfl

/-- A write to an offset without a writable register changes nothing (R261). -/
theorem exec_wrIgnored (off : Offset) (v : Word) (s : State) : exec (.wrIgnored off v) s = .next s := rfl

/-- RD.STATUS answers the live view and changes nothing else (R260). -/
theorem readAnswers_rdStatus (s : State) : ReadAnswers .rdStatus s s.statusWord := rfl

/-- Settles O40: the word is `statusWord`, and each flag of Machine/Flags is by definition its condition in R48. -/
theorem statusReadShowsLiveState : Obligations.StatusReadShowsLiveState := by
  intro s
  have writeIgnored (v : Word) : exec (decodeEvent (.host (.write 0x04#8 4 v))) s = .next s := by
    rw [decodeEvent_write_status, exec_wrIgnored]
  exact ⟨writeIgnored, decodeEvent_read_status, s.statusWord, readAnswers_rdStatus s,
    s.statusWord_rxState, s.statusWord_lastValid, s.statusWord_txqNonempty, s.statusWord_rxqNonempty,
    s.statusWord_txqFull, s.statusWord_rxqFull, s.statusWord_txqCount, s.statusWord_rxqCount,
    s.statusWord_stageFull, s.statusWord_reserved⟩

end Sys2Proof.Machine

/-! The receive machine (R161 to R181): the row a received byte selects, what each row but the end marker's leads to,
and the statements about them. A statement `RowRuns` has two halves, the row's own effect and the byte that selects the row;
`RowRuns.of_decode` joins the two. -/

namespace Sys2Proof.Machine

/-! ### The operation of the row that state and byte select (R112) -/

theorem toInstr_rxRow_idle (m : Markers) (b : Byte) :
    (rxRow m .idle b).toInstr = if b = 0x10#8 then .rxIdleEsc else .rxIdleStray b := by
  simp only [rxRow, apply_ite RxRow.toInstr]; rfl

theorem toInstr_rxRow_idleEscape (m : Markers) (b : Byte) :
    (rxRow m .idleEscape b).toInstr =
      if b = 0x00#8 then .rxIescSof else if b = 0x11#8 then .rxIescAck else if b = 0x12#8 then .rxIescNak
      else .rxIescOther b := by
  simp only [rxRow, apply_ite RxRow.toInstr]; rfl

theorem toInstr_rxRow_seqNo (m : Markers) (b : Byte) :
    (rxRow m .seqNo b).toInstr = if b = 0x10#8 then .rxSeqEsc else .rxSeqData b := by
  simp only [rxRow, apply_ite RxRow.toInstr]; rfl

theorem toInstr_rxRow_seqNoEscape (m : Markers) (b : Byte) :
    (rxRow m .seqNoEscape b).toInstr = if b = 0x10#8 then .rxSescEsc else .rxSescBad b := by
  simp only [rxRow, apply_ite RxRow.toInstr]; rfl

/-- The decoder asks for a known marker first and which of the two it is then; the table has one row for each. -/
theorem toInstr_rxRow_type (m : Markers) (b : Byte) :
    (rxRow m .type b).toInstr =
      if b = 0x11#8 ∧ m.acc11 = true then .rxTypeMk11
      else if b = 0x91#8 ∧ m.acc91 = true then .rxTypeMk91 else .rxTypeBad b := by
  simp only [rxRow, Markers.known_iff, apply_ite RxRow.toInstr]
  by_cases h11 : b = 0x11#8
  · subst h11; simp [RxRow.toInstr, show (0x11#8 : Byte) ≠ Wire.mkT2E by decide]
  · simp [h11, RxRow.toInstr]

theorem toInstr_rxRow_infoFrame (m : Markers) (b : Byte) :
    (rxRow m .infoFrame b).toInstr = if b = 0x10#8 then .rxInfoEsc else .rxInfoData b := by
  simp only [rxRow, apply_ite RxRow.toInstr]; rfl

theorem toInstr_rxRow_infoFrameEscape (m : Markers) (b : Byte) :
    (rxRow m .infoFrameEscape b).toInstr =
      if b = 0x10#8 then .rxIfescEsc else if b = 0xFF#8 then .rxIfescEof else if b = 0x11#8 then .rxIfescAck
      else if b = 0x00#8 then .rxIfescSof else .rxIfescBad b := by
  simp only [rxRow, apply_ite RxRow.toInstr]; rfl

/-- The end marker has its meaning inside a frame only. -/
theorem rxState_of_rxRow_eq_ifescEof {m : Markers} {st : RxState} {b : Byte} (h : rxRow m st b = .ifescEof) :
    st = .infoFrameEscape := by
  cases st with
  | infoFrameEscape => rfl
  | _ => simp only [rxRow] at h; split_ifs at h

/-! ### From the row to the received byte (R161) -/

theorem evRxByte_of_receivesIn {s : State} {st : RxState} {b : Byte} {i : Instr} (hr : ReceivesIn s st)
    (hi : (rxRow s.markers st b).toInstr = i) : exec (.evRxByte b) s = exec i s := by
  obtain ⟨hen, rfl⟩ := hr
  rw [evRxByte_enabled s b hen, hi]

/-- A row's effect is also that of the byte which selects the row. -/
theorem RowRuns.of_decode {row : Instr} {b : Byte} {selected : Prop} {s t : State} (st : RxState)
    (hrow : exec row s = .next t)
    (hsel : selected → ReceivesIn s st ∧ (rxRow s.markers st b).toInstr = row) : RowRuns row b selected s t := by
  refine ⟨hrow, fun h => ?_⟩
  obtain ⟨hr, hi⟩ := hsel h
  rw [evRxByte_of_receivesIn hr hi, hrow]

/-! ### Completion -/

theorem exec_rxIfescEof_completes {s : State} (h : 2 ≤ s.asm.length) : ∃ t, exec .rxIfescEof s = .next t := by
  show ∃ t, s.endOfFrame = .next t
  match hs : s.asm with
  | a0 :: a1 :: body => exact ⟨_, s.endOfFrame_cons a0 a1 body hs⟩
  | [] | [_] => simp [hs] at h

/-- Every receive row completes, the end marker's on a buffer that holds its two header bytes. -/
theorem exec_rxRow_completes (r : RxRow) (s : State) (h : r = .ifescEof → 2 ≤ s.asm.length) :
    ∃ t, exec r.toInstr s = .next t := by
  cases r with
  | ifescEof => exact exec_rxIfescEof_completes (h rfl)
  | _ => exact ⟨_, rfl⟩

theorem evRxByte_completes (s : State) (b : Byte) (h : s.rxState = .infoFrameEscape → 2 ≤ s.asm.length) :
    ∃ t, exec (.evRxByte b) s = .next t := by
  cases hen : s.ctrl.en with
  | false => exact ⟨s, evRxByte_disabled s b hen⟩
  | true =>
    rw [evRxByte_enabled s b hen]
    exact exec_rxRow_completes _ s fun hr => h (rxState_of_rxRow_eq_ifescEof hr)

/-! ### What the rows lead to (R163 to R181) -/

/-- RX_FRAMING is bit 6 (R310). -/
theorem State.anomaly_rxFraming (s : State) (c : CounterId) (k : BitVec 4) :
    s.anomaly c k Irq.rxFraming =
      { s with cnt := s.cnt.bump c, lastEvt := k, irqPending := s.irqPending ||| 0x040#9 } := by
  have bit6 : 1#9 <<< Irq.rxFraming.val = 0x040#9 := by decide
  rw [State.anomaly_eq, bit6]

theorem exec_rxIdleEsc (s : State) : exec .rxIdleEsc s = .next { s with rxState := .idleEscape } := rfl

theorem exec_rxIdleStray (b : Byte) (s : State) :
    exec (.rxIdleStray b) s =
      .next { s with rxState := .idle, asm := [], cnt := s.cnt.bump .rxStray, lastEvt := 1#4 } := rfl

theorem exec_rxIescSof (s : State) : exec .rxIescSof s = .next { s with rxState := .seqNo, asm := [] } := rfl

theorem exec_rxIescAck (s : State) :
    exec .rxIescAck s = .next { s.onAck with rxState := .idle, asm := [] } := rfl

theorem exec_rxIescNak (s : State) :
    exec .rxIescNak s = .next { s.onNak with rxState := .idle, asm := [] } := rfl

theorem exec_rxIescOther (b : Byte) (s : State) :
    exec (.rxIescOther b) s = .next { s with rxState := .idle, asm := [] } := rfl

theorem exec_rxSeqEsc (s : State) : exec .rxSeqEsc s = .next { s with rxState := .seqNoEscape } := rfl

theorem exec_rxSeqData (b : Byte) (s : State) : exec (.rxSeqData b) s = .next (s.append b .type) := rfl

theorem exec_rxSescEsc (s : State) : exec .rxSescEsc s = .next (s.append 0x10#8 .type) := rfl

theorem exec_rxSescBad (b : Byte) (s : State) :
    exec (.rxSescBad b) s =
      .next
        { s with
          rxState := .seqNo
          cnt := s.cnt.bump .rxBadesc
          lastEvt := 2#4
          irqPending := s.irqPending ||| 0x040#9 } := by
  show Host.Outcome.next ((s.anomaly .rxBadesc Evt.badEscape Irq.rxFraming).goto .seqNo) = _
  rw [State.anomaly_rxFraming]; rfl

theorem exec_rxTypeMk11 (s : State) : exec .rxTypeMk11 s = .next (s.append 0x11#8 .infoFrame) := rfl

theorem exec_rxTypeMk91 (s : State) : exec .rxTypeMk91 s = .next (s.append 0x91#8 .infoFrame) := rfl

theorem exec_rxTypeBad (b : Byte) (s : State) :
    exec (.rxTypeBad b) s =
      .next
        { s with
          rxState := .idle, asm := []
          txOut := s.txOut ++ [0x10#8, 0x12#8]
          cnt := s.cnt.bump .rxBadmarker
          lastEvt := 3#4
          irqPending := s.irqPending ||| 0x040#9 } := by
  show Host.Outcome.next (((s.emit nakSeq).anomaly .rxBadmarker Evt.badMarker Irq.rxFraming).goto .idle) = _
  rw [State.anomaly_rxFraming]; rfl

theorem exec_rxInfoEsc (s : State) : exec .rxInfoEsc s = .next { s with rxState := .infoFrameEscape } := rfl

theorem exec_rxInfoData (b : Byte) (s : State) : exec (.rxInfoData b) s = .next (s.append b .infoFrame) := rfl

theorem exec_rxIfescEsc (s : State) : exec .rxIfescEsc s = .next (s.append 0x10#8 .infoFrame) := rfl

theorem exec_rxIfescAck (s : State) : exec .rxIfescAck s = .next { s.onAck with rxState := .infoFrame } := rfl

theorem exec_rxIfescSof (s : State) :
    exec .rxIfescSof s =
      .next
        { s with
          rxState := .seqNo, asm := []
          cnt := s.cnt.bump .rxAbort
          lastEvt := 4#4
          irqPending := s.irqPending ||| 0x040#9 } := by
  show Host.Outcome.next ({ s.anomaly .rxAbort Evt.frameAbort Irq.rxFraming with asm := [] }.goto .seqNo) = _
  rw [State.anomaly_rxFraming]; rfl

theorem exec_rxIfescBad (b : Byte) (s : State) :
    exec (.rxIfescBad b) s =
      .next
        { s with
          rxState := .infoFrame
          cnt := s.cnt.bump .rxBadesc
          lastEvt := 2#4
          irqPending := s.irqPending ||| 0x040#9 } := by
  show Host.Outcome.next ((s.anomaly .rxBadesc Evt.badEscape Irq.rxFraming).goto .infoFrame) = _
  rw [State.anomaly_rxFraming]; rfl

/-! ### An append in full (R162) -/

/-- An appended frame byte is stored where there is room and is one too many where there is none (R162). -/
theorem State.append_infoFrame (s : State) (b : Byte) :
    s.append b .infoFrame =
      if s.asm.length = s.params.rxbufMax then
        { s with
          rxState := .idle, asm := []
          txOut := s.txOut ++ [0x10#8, 0x12#8]
          cnt := s.cnt.bump .rxOverflow
          lastEvt := 8#4
          irqPending := s.irqPending ||| 0x040#9 }
      else { s with rxState := .infoFrame, asm := s.asm ++ [b] } := by
  split
  next hfull => exact s.append_full b .infoFrame hfull
  next hroom => exact s.append_room b .infoFrame hroom (by decide)

/-! ### ACK and NAK by the length of the queue (R225 to R228) -/

theorem State.onAck_single (s : State) (f : TxFrame) (h : s.txq = [f]) :
    s.onAck =
      { s with
        txq := [], tries := 0, elapsed := 0
        cnt := (s.cnt.bump .ackRx).bump .txAcked
        irqPending := s.irqPending ||| 0x002#9 } := by
  rw [s.onAck_cons f [] h, State.startHead_nil _ rfl]

theorem State.onAck_more (s : State) (f g : TxFrame) (r : List TxFrame) (h : s.txq = f :: g :: r) :
    s.onAck =
      { s with
        txq := g :: r, tries := 0, elapsed := 0
        txOut := s.txOut ++ g.wire
        cnt := ((s.cnt.bump .ackRx).bump .txAcked).bump .txFrames
        irqPending := s.irqPending ||| 0x002#9 } := by
  rw [s.onAck_cons f (g :: r) h, State.startHead_cons _ g r rfl]

/-- A NAK past the limit drops the head, and the new head starts (R225, R228). -/
theorem State.onNak_drop_cons (s : State) (f : TxFrame) (r : List TxFrame) (h : s.txq = f :: r)
    (ht : s.maxTries.toNat < s.tries.toNat) :
    s.onNak =
      State.startHead
        { s with
          dropInfo := { seq := f.seq, marker := f.marker, cause := 1#1 }
          txq := r
          cnt := (s.cnt.bump .nakRx).bump .txDrop
          lastEvt := 11#4
          irqPending := s.irqPending ||| 0x004#9 } := by
  rw [s.onNak_drop (by simp [h]) ht]
  exact State.drop_cons _ 1 f r h

theorem State.onNak_drop_single (s : State) (f : TxFrame) (h : s.txq = [f])
    (ht : s.maxTries.toNat < s.tries.toNat) :
    s.onNak =
      { s with
        txq := [], tries := 0, elapsed := 0
        dropInfo := { seq := f.seq, marker := f.marker, cause := 1#1 }
        cnt := (s.cnt.bump .nakRx).bump .txDrop
        lastEvt := 11#4
        irqPending := s.irqPending ||| 0x004#9 } := by
  rw [s.onNak_drop_cons f [] h ht, State.startHead_nil _ rfl]

theorem State.onNak_drop_more (s : State) (f g : TxFrame) (r : List TxFrame) (h : s.txq = f :: g :: r)
    (ht : s.maxTries.toNat < s.tries.toNat) :
    s.onNak =
      { s with
        txq := g :: r, tries := 0, elapsed := 0
        dropInfo := { seq := f.seq, marker := f.marker, cause := 1#1 }
        txOut := s.txOut ++ g.wire
        cnt := ((s.cnt.bump .nakRx).bump .txDrop).bump .txFrames
        lastEvt := 11#4
        irqPending := s.irqPending ||| 0x004#9 } := by
  rw [s.onNak_drop_cons f (g :: r) h ht, State.startHead_cons _ g r rfl]

/-! ### Room for the header bytes (R35) -/

theorem State.Inv.asm_eq_nil {s : State} (h : s.Inv) (hst : s.rxState = .seqNo ∨ s.rxState = .seqNoEscape) :
    s.asm = [] := by
  have hlen := h.asm_len
  rcases hst with hst | hst <;> rw [hst] at hlen <;> exact List.eq_nil_of_length_eq_zero hlen

theorem State.Inv.asm_length_of_type {s : State} (h : s.Inv) (hst : s.rxState = .type) : s.asm.length = 1 := by
  have hlen := h.asm_len
  rwa [hst] at hlen

/-- RXBUF_MAX is at least 4 (R8), so a buffer of fewer bytes has room. -/
theorem State.Inv.asm_has_room {s : State} (h : s.Inv) (hlen : s.asm.length < 4) :
    s.asm.length ≠ s.params.rxbufMax := by
  have hmax := h.params_legal.1.1
  omega

/-! ### The statements -/

/-- Settles O6: completion row by row, and in each state the decoder's row is the table's. -/
theorem receivedByteRunsItsRow : Obligations.ReceivedByteRunsItsRow := by
  intro s b
  exact ⟨evRxByte_disabled s b, evRxByte_completes s b,
    fun h => evRxByte_of_receivesIn h (toInstr_rxRow_idle _ b),
    fun h => evRxByte_of_receivesIn h (toInstr_rxRow_idleEscape _ b),
    fun h => evRxByte_of_receivesIn h (toInstr_rxRow_seqNo _ b),
    fun h => evRxByte_of_receivesIn h (toInstr_rxRow_seqNoEscape _ b),
    fun h => evRxByte_of_receivesIn h (toInstr_rxRow_type s.markers b),
    fun h => evRxByte_of_receivesIn h (toInstr_rxRow_infoFrame _ b),
    fun h => evRxByte_of_receivesIn h (toInstr_rxRow_infoFrameEscape _ b)⟩

/-- Settles O7: none of the three states entered is Idle, so the buffer stays. -/
theorem escapeByteEntersEscapeState : Obligations.EscapeByteEntersEscapeState := by
  intro s
  exact ⟨.of_decode .idle (exec_rxIdleEsc s) fun h => ⟨h, rfl⟩,
    .of_decode .seqNo (exec_rxSeqEsc s) fun h => ⟨h, rfl⟩,
    .of_decode .infoFrame (exec_rxInfoEsc s) fun h => ⟨h, rfl⟩⟩

/-- Settles O8. -/
theorem strayByteIsCountedAndNoted : Obligations.StrayByteIsCountedAndNoted := by
  intro s b
  refine .of_decode .idle (exec_rxIdleStray b s) ?_
  rintro ⟨hr, hb⟩
  exact ⟨hr, by rw [toInstr_rxRow_idle, if_neg hb]⟩

/-- Settles O9. -/
theorem idleEscapeStartsFrameOrReturns : Obligations.IdleEscapeStartsFrameOrReturns := by
  intro s b
  refine ⟨.of_decode .idleEscape (exec_rxIescSof s) fun h => ⟨h, rfl⟩,
    .of_decode .idleEscape (exec_rxIescOther b s) ?_⟩
  rintro ⟨hr, hsof, hack, hnak⟩
  exact ⟨hr, by rw [toInstr_rxRow_idleEscape, if_neg hsof, if_neg hack, if_neg hnak]⟩

/-- Settles O10, by the length of the queue. -/
theorem ackDequeuesHeadAndSendsNext : Obligations.AckDequeuesHeadAndSendsNext := by
  intro s
  have ackRuns {u : State} (hu : s.onAck = u) :
      RowRuns .rxIescAck 0x11#8 (ReceivesIn s .idleEscape) s { u with rxState := .idle, asm := [] } :=
    .of_decode .idleEscape (hu ▸ exec_rxIescAck s) fun h => ⟨h, rfl⟩
  exact ⟨fun h => ackRuns (s.onAck_nil h), fun f h => ackRuns (s.onAck_single f h),
    fun f g r h => ackRuns (s.onAck_more f g r h)⟩

/-- Settles O11, by the length of the queue where the tries are exhausted. -/
theorem nakDropsOnlyExhaustedHead : Obligations.NakDropsOnlyExhaustedHead := by
  intro s
  have nakRuns {u : State} (hu : s.onNak = u) :
      RowRuns .rxIescNak 0x12#8 (ReceivesIn s .idleEscape) s { u with rxState := .idle, asm := [] } :=
    .of_decode .idleEscape (hu ▸ exec_rxIescNak s) fun h => ⟨h, rfl⟩
  exact ⟨fun h => nakRuns (s.onNak_keep h), fun f h ht => nakRuns (s.onNak_drop_single f h ht),
    fun f g r h ht => nakRuns (s.onNak_drop_more f g r h ht)⟩

/-- Settles O12: the row appends where there is room, and in these two states R35 leaves room. -/
theorem sequenceByteIsStored : Obligations.SequenceByteIsStored := by
  intro s b
  refine ⟨fun hroom => ⟨.of_decode .seqNo ?_ ?_, .of_decode .seqNoEscape ?_ fun h => ⟨h, rfl⟩⟩, ?_⟩
  · rw [exec_rxSeqData, s.append_room b .type hroom (by decide)]
  · rintro ⟨hr, hb⟩
    exact ⟨hr, by rw [toInstr_rxRow_seqNo, if_neg hb]⟩
  · rw [exec_rxSescEsc, s.append_room 0x10#8 .type hroom (by decide)]
  · intro hinv hst
    have hnil := hinv.asm_eq_nil hst
    exact ⟨hnil, hinv.asm_has_room (by simp [hnil])⟩

/-- Settles O13. -/
theorem badEscapeIsDiscarded : Obligations.BadEscapeIsDiscarded := by
  intro s b
  refine ⟨.of_decode .seqNoEscape (exec_rxSescBad b s) ?_, .of_decode .infoFrameEscape (exec_rxIfescBad b s) ?_⟩
  · rintro ⟨hr, hb⟩
    exact ⟨hr, by rw [toInstr_rxRow_seqNoEscape, if_neg hb]⟩
  · rintro ⟨hr, hesc, heof, hack, hsof⟩
    exact ⟨hr, by rw [toInstr_rxRow_infoFrameEscape, if_neg hesc, if_neg heof, if_neg hack, if_neg hsof]⟩

/-- Settles O14: the row appends where there is room, and in Type R35 leaves room. -/
theorem knownMarkerIsStored : Obligations.KnownMarkerIsStored := by
  intro s
  refine ⟨fun hroom => ⟨.of_decode .type ?_ ?_, .of_decode .type ?_ ?_⟩, ?_⟩
  · rw [exec_rxTypeMk11, s.append_room 0x11#8 .infoFrame hroom (by decide)]
  · rintro ⟨hr, hacc⟩
    exact ⟨hr, by rw [toInstr_rxRow_type, if_pos ⟨rfl, hacc⟩]⟩
  · rw [exec_rxTypeMk91, s.append_room 0x91#8 .infoFrame hroom (by decide)]
  · rintro ⟨hr, hacc⟩
    exact ⟨hr, by rw [toInstr_rxRow_type, if_neg (by simp), if_pos ⟨rfl, hacc⟩]⟩
  · intro hinv hst
    have hone := hinv.asm_length_of_type hst
    exact ⟨hone, hinv.asm_has_room (by omega)⟩

/-- Settles O15: a marker that is switched off falls through to the row of the unknown ones. -/
theorem unknownMarkerIsNaked : Obligations.UnknownMarkerIsNaked := by
  intro s b
  refine .of_decode .type (exec_rxTypeBad b s) ?_
  rintro ⟨hr, h11, h91⟩
  exact ⟨hr, (toInstr_rxRow_type s.markers b).trans ((if_neg h11).trans (if_neg h91))⟩

/-- Settles O16. -/
theorem frameByteIsStoredOrOverflows : Obligations.FrameByteIsStoredOrOverflows := by
  intro s b
  refine ⟨.of_decode .infoFrame ?_ ?_, .of_decode .infoFrameEscape ?_ fun h => ⟨h, rfl⟩⟩
  · rw [exec_rxInfoData, s.append_infoFrame b]
  · rintro ⟨hr, hb⟩
    exact ⟨hr, by rw [toInstr_rxRow_infoFrame, if_neg hb]⟩
  · rw [exec_rxIfescEsc, s.append_infoFrame 0x10#8]

/-- Settles O18, by the length of the queue; no case of an ACK touches the buffer. -/
theorem ackInsideFrameKeepsFrame : Obligations.AckInsideFrameKeepsFrame := by
  intro s
  have ackRuns {u : State} (hu : s.onAck = u) :
      RowRuns .rxIfescAck 0x11#8 (ReceivesIn s .infoFrameEscape) s { u with rxState := .infoFrame } :=
    .of_decode .infoFrameEscape (hu ▸ exec_rxIfescAck s) fun h => ⟨h, rfl⟩
  exact ⟨fun h => ackRuns (s.onAck_nil h), fun f h => ackRuns (s.onAck_single f h),
    fun f g r h => ackRuns (s.onAck_more f g r h)⟩

/-- Settles O19. -/
theorem startMarkerAbandonsFrame : Obligations.StartMarkerAbandonsFrame := by
  intro s
  exact .of_decode .infoFrameEscape (exec_rxIfescSof s) fun h => ⟨h, rfl⟩

end Sys2Proof.Machine

/-! The end of a frame (R200 to R207): the verdict on a buffer in each of its cases, the end marker's row as that verdict
with the buffer cleared, and the one field the guard alone writes. For that field the operations split in two:
`mayWriteLast` names the five through which `last` can change, and `exec_keeps_last` is the frame of all the others. -/

namespace Sys2Proof.Machine

/-! ### The verdict on a buffer (R200) -/

/-- A short buffer or a wrong CRC fails the check before anything is compared (R202). -/
theorem State.classify_bad (s : State) (a0 a1 : Byte) (body : List Byte)
    (h : body.length < 2 ∨ crc16 (crcCovered (a0 :: a1 :: body)) ≠ crcField (a0 :: a1 :: body)) :
    s.classify a0 a1 body = s.integrityFail a0 a1 body := by
  rcases s.classify_cases a0 a1 body with ⟨-, hfail⟩ | ⟨hlen, hcrc, -⟩
  · exact hfail
  · exact absurd h (not_or.mpr ⟨not_lt.mpr hlen, not_not.mpr hcrc⟩)

section RightCrc

variable {s : State} {q m hi lo : Byte} {p : List Byte}

theorem State.classify_new (hcrc : crc16 (q :: m :: p) = hi ++ lo) (hnew : ∀ l, s.last = some l → l.seq ≠ q) :
    s.classify q m (p ++ [hi, lo]) = s.acceptNew q m (p ++ [hi, lo]) := by
  rcases s.classify_right_crc q m hi lo p hcrc with ⟨-, haccept⟩ | ⟨l, hl, hseq, -⟩
  · exact haccept
  · exact absurd hseq (hnew l hl)

theorem State.classify_replay (hcrc : crc16 (q :: m :: p) = hi ++ lo)
    (hlast : s.last = some { seq := q, marker := m, body := p ++ [hi, lo] }) :
    s.classify q m (p ++ [hi, lo]) = s.replay := by
  rcases s.classify_right_crc q m hi lo p hcrc with ⟨hnew, -⟩ | ⟨l, hl, -, ⟨-, hreplay⟩ | ⟨hbytes, -⟩⟩
  · exact absurd rfl (hnew _ hlast)
  · exact hreplay
  · cases hlast.symm.trans hl
    exact absurd rfl hbytes

/-- Two frames with the same bytes are the same frame. -/
theorem LastFrame.ext_bytes {l l' : LastFrame} (h : l.bytes = l'.bytes) : l = l' := by
  cases l; cases l'
  simpa [LastFrame.bytes] using h

theorem State.classify_conflict {l : LastFrame} (hcrc : crc16 (q :: m :: p) = hi ++ lo) (hlast : s.last = some l)
    (hseq : l.seq = q) (hne : l ≠ { seq := q, marker := m, body := p ++ [hi, lo] }) :
    s.classify q m (p ++ [hi, lo]) = s.conflict := by
  rcases s.classify_right_crc q m hi lo p hcrc with ⟨hnew, -⟩ | ⟨l', hl', -, ⟨hbytes, -⟩ | ⟨-, hconflict⟩⟩
  · exact absurd hseq (hnew l hlast)
  · cases hlast.symm.trans hl'
    exact absurd (LastFrame.ext_bytes hbytes) hne
  · exact hconflict

end RightCrc

/-! ### The end marker's row (R178) -/

/-- The row clears the verdict's buffer, and the end marker selects it inside a frame. -/
theorem RowRuns.endOfFrame {s u : State} {a0 a1 : Byte} {body : List Byte} (hasm : s.asm = a0 :: a1 :: body)
    (hu : s.classify a0 a1 body = u) :
    RowRuns .rxIfescEof 0xFF#8 (ReceivesIn s .infoFrameEscape) s { u with rxState := .idle, asm := [] } :=
  .of_decode .infoFrameEscape (hu ▸ s.endOfFrame_cons a0 a1 body hasm) fun h => ⟨h, rfl⟩

/-! ### The last accepted frame: which verdict writes it (R203, R207) -/

theorem exists_eq_append_pair {α : Type} {l : List α} (h : 2 ≤ l.length) : ∃ p x y, l = p ++ [x, y] := by
  have hdrop : (l.drop (l.length - 2)).length = 2 := by rw [List.length_drop]; omega
  obtain ⟨x, y, hxy⟩ := List.length_eq_two.mp hdrop
  exact ⟨l.take (l.length - 2), x, y, by rw [← hxy, List.take_append_drop]⟩

/-- Of the verdicts only the acceptance of a new frame, with room in the FIFO, writes `last`. -/
theorem State.classify_last (s : State) (a0 a1 : Byte) (body : List Byte) :
    (s.classify a0 a1 body).last = s.last ∨
      (2 ≤ body.length ∧ crc16 (crcCovered (a0 :: a1 :: body)) = crcField (a0 :: a1 :: body) ∧
        (∀ l, s.last = some l → l.seq ≠ a0) ∧ s.rxq.length ≠ s.params.rxqDepth ∧
        (s.classify a0 a1 body).last = some { seq := a0, marker := a1, body := body }) := by
  rcases s.classify_cases a0 a1 body with
    ⟨-, hfail⟩ | ⟨hlen, hcrc, ⟨hnew, haccept⟩ | ⟨l, -, -, ⟨-, hreplay⟩ | ⟨-, hconflict⟩⟩⟩
  · exact .inl (by rw [hfail]; rfl)
  · by_cases hfull : s.rxq.length = s.params.rxqDepth
    · exact .inl (by rw [haccept, s.acceptNew_full a0 a1 body hfull])
    · exact .inr ⟨hlen, hcrc, hnew, hfull, by rw [haccept, s.acceptNew_room a0 a1 body hfull]⟩
  · exact .inl (by rw [hreplay]; rfl)
  · exact .inl (by rw [hconflict]; rfl)

theorem State.endOfFrame_ends_idle {s t : State} (h : s.endOfFrame = .next t) : t.rxState = .idle ∧ t.asm = [] := by
  obtain ⟨a0, a1, body, -, rfl⟩ := s.endOfFrame_next t h
  exact ⟨rfl, rfl⟩

/-- An end-of-frame check that changes `last` has accepted its buffer as a new frame. -/
theorem State.endOfFrame_changes_last {s t : State} (h : s.endOfFrame = .next t) (hne : t.last ≠ s.last) :
    ∃ q m hi lo p, s.asm = q :: m :: p ++ [hi, lo] ∧ crc16 (q :: m :: p) = hi ++ lo ∧
      s.rxq.length ≠ s.params.rxqDepth ∧ (∀ l, s.last = some l → l.seq ≠ q) ∧
      t.last = some { seq := q, marker := m, body := p ++ [hi, lo] } := by
  obtain ⟨q, m, body, hasm, rfl⟩ := s.endOfFrame_next t h
  obtain ⟨hlen, hcrc, hnew, hroom, hlast⟩ := (s.classify_last q m body).resolve_left hne
  obtain ⟨p, hi, lo, rfl⟩ := exists_eq_append_pair hlen
  refine ⟨q, m, hi, lo, p, hasm, ?_, hroom, hnew, hlast⟩
  have hbuf : q :: m :: (p ++ [hi, lo]) = (q :: m :: p) ++ [hi, lo] := rfl
  rwa [hbuf, crcCovered_snoc, crcField_snoc] at hcrc

/-! ### The last accepted frame: what leaves it as it is -/

@[simp] theorem State.append_last (s : State) (b : Byte) (st : RxState) : (s.append b st).last = s.last := by
  simp only [State.append]; split <;> rfl

@[simp] theorem State.startHead_last (s : State) : s.startHead.last = s.last := by
  simp only [State.startHead]; split <;> rfl

@[simp] theorem State.qEnqueue_last (s : State) (f : TxFrame) : (s.qEnqueue f).last = s.last := by
  simp only [State.qEnqueue, apply_ite State.last, State.startHead_last, ite_self]

@[simp] theorem State.retransmit_last (s : State) : s.retransmit.last = s.last := by
  simp only [State.retransmit]; split <;> rfl

@[simp] theorem State.drop_last (s : State) (c : BitVec 1) : (s.drop c).last = s.last := by
  cases hq : s.txq with
  | nil => simp only [State.drop, hq]
  | cons f r => rw [s.drop_cons c f r hq, State.startHead_last]

@[simp] theorem State.resendAttempt_last (s : State) : s.resendAttempt.last = s.last := by
  simp only [State.resendAttempt, apply_ite State.last, State.drop_last, State.retransmit_last, ite_self]

@[simp] theorem State.onAck_last (s : State) : s.onAck.last = s.last := by
  cases hq : s.txq with
  | nil => rw [s.onAck_nil hq]
  | cons f r => rw [s.onAck_cons f r hq, State.startHead_last]

@[simp] theorem State.onNak_last (s : State) : s.onNak.last = s.last := by
  simp only [State.onNak, apply_ite State.last, State.drop_last, State.count_last, ite_self]

@[simp] theorem State.tick_last (s : State) : s.tick.last = s.last := by
  simp only [State.tick, apply_ite State.last, State.resendAttempt_last, ite_self]

/-- The operations through which `last` can change: three that write it and the two dispatches that run them. -/
def mayWriteLast : Instr → Bool
  | .rxIfescEof | .cmdLinkReset | .evReset | .evRxByte _ | .wrCmd _ => true
  | _ => false

/-- Every operation that `mayWriteLast` does not name leaves `last` as it is. -/
theorem exec_keeps_last {i : Instr} {s t : State} (hi : mayWriteLast i = false) (h : exec i s = .next t) :
    t.last = s.last := by
  cases i with
  | rxIfescEof | cmdLinkReset | evReset | evRxByte | wrCmd => cases hi
  | rxIescAck | rxIfescAck => cases h; exact s.onAck_last
  | rxIescNak => cases h; exact s.onNak_last
  | rxSeqData | rxSescEsc | rxTypeMk11 | rxTypeMk91 | rxInfoData | rxIfescEsc => cases h; exact s.append_last _ _
  | evTick => cases h; exact s.tick_last
  | hostBusError a => cases a <;> (cases h; rfl)
  | rdRxData =>
    simp only [exec, execRdRxData] at h
    split at h <;> (cases h; rfl)
  | cmdEnqueue =>
    simp only [exec, execCmdEnqueue] at h
    split at h
    · cases h; rfl
    · cases h; exact State.qEnqueue_last _ _
  | cmdRxPop =>
    simp only [exec, execCmdRxPop] at h
    split at h <;> (cases h; rfl)
  | wrTxData v =>
    simp only [exec, execWrTxData] at h
    split at h <;> (cases h; rfl)
  | _ => cases h; rfl

theorem mayWriteLast_of_changes_last {i : Instr} {s t : State} (h : exec i s = .next t) (hne : t.last ≠ s.last) :
    mayWriteLast i = true :=
  Bool.of_not_eq_false fun hi => hne (exec_keeps_last hi h)

/-! ### The last accepted frame: which events change it -/

/-- Only the end marker's row writes `last` (R207). -/
theorem mayWriteLast_toInstr_rxRow (r : RxRow) : mayWriteLast r.toInstr = true ↔ r = .ifescEof := by
  cases r <;> simp [RxRow.toInstr, mayWriteLast]

/-- Only LINK_RESET writes `last` (R207). -/
theorem mayWriteLast_toInstr_cmdRow (r : CmdRow) : mayWriteLast r.toInstr = true ↔ r = .linkReset := by
  cases r <;> simp [CmdRow.toInstr, mayWriteLast]

theorem mayWriteLast_readRow (off : Offset) : mayWriteLast (readRow off) = false := by
  simp only [readRow, apply_ite mayWriteLast]
  simp only [mayWriteLast, ite_self]

theorem mayWriteLast_writeRow {off : Offset} {v : Word} (h : mayWriteLast (writeRow off v) = true) : off = 0x24#8 := by
  by_contra hoff
  simp only [writeRow, apply_ite mayWriteLast] at h
  simp [mayWriteLast, hoff] at h

/-- Of the host's accesses only an aligned 32-bit write to CMD can change `last`. -/
theorem mayWriteLast_decodeHost {a : HostAccess} (h : mayWriteLast (decodeHost a) = true) :
    ∃ v, a = .write 0x24#8 4 v := by
  cases a with
  | read off n =>
    simp only [decodeHost, apply_ite mayWriteLast, mayWriteLast_readRow] at h
    simp [mayWriteLast] at h
  | write off n v =>
    cases hbus : busErrorAccess off n with
    | true => simp [decodeHost, hbus, mayWriteLast] at h
    | false =>
      have hrow : mayWriteLast (writeRow off v) = true := by simpa [decodeHost, hbus] using h
      obtain rfl := mayWriteLast_writeRow hrow
      have hwidth : n = 4 := by simpa [busErrorAccess] using hbus
      exact ⟨v, by rw [hwidth]⟩

theorem eq_eof_of_rxRow_eq_ifescEof {m : Markers} {st : RxState} {b : Byte} (h : rxRow m st b = .ifescEof) :
    b = 0xFF#8 := by
  obtain rfl := rxState_of_rxRow_eq_ifescEof h
  simp only [rxRow] at h
  split_ifs at h with _ heof
  exact heof

theorem eq_four_of_cmdRow_eq_linkReset {v : Word} (h : cmdRow v = .linkReset) : v = 4#32 := by
  simp only [cmdRow] at h
  split_ifs at h with _ _ _ _ hv
  exact hv

/-- A received byte that changes `last` is the end marker of a frame. -/
theorem evRxByte_changes_last {s t : State} {b : Byte} (h : exec (.evRxByte b) s = .next t) (hne : t.last ≠ s.last) :
    b = 0xFF#8 ∧ ReceivesIn s .infoFrameEscape ∧ s.endOfFrame = .next t := by
  cases hen : s.ctrl.en with
  | false =>
    rw [evRxByte_disabled s b hen] at h
    cases h
    exact absurd rfl hne
  | true =>
    rw [evRxByte_enabled s b hen] at h
    have hwrites : mayWriteLast (rxRow s.markers s.rxState b).toInstr = true :=
      mayWriteLast_of_changes_last h hne
    have hrow := (mayWriteLast_toInstr_rxRow _).mp hwrites
    rw [hrow] at h
    exact ⟨eq_eof_of_rxRow_eq_ifescEof hrow, ⟨hen, rxState_of_rxRow_eq_ifescEof hrow⟩, h⟩

/-- A command word that changes `last` is LINK_RESET, which clears it. -/
theorem wrCmd_changes_last {s t : State} {v : Word} (h : exec (.wrCmd v) s = .next t) (hne : t.last ≠ s.last) :
    v = 4#32 ∧ t.last = none := by
  rw [wrCmd_eq] at h
  have hwrites : mayWriteLast (cmdRow v).toInstr = true :=
    mayWriteLast_of_changes_last h hne
  have hrow := (mayWriteLast_toInstr_cmdRow _).mp hwrites
  rw [hrow] at h
  cases h
  exact ⟨eq_four_of_cmdRow_eq_linkReset hrow, rfl⟩

/-! ### The statements -/

/-- Settles O20. -/
theorem badCrcOrShortFrameIsNaked : Obligations.BadCrcOrShortFrameIsNaked := by
  intro s l body hi lo a0 a1 hsnoc hcons hbad
  have hbuf : a0 :: a1 :: body = l ++ [hi, lo] := hcons.symm.trans hsnoc
  have hfail : s.classify a0 a1 body = s.integrityFail a0 a1 body := by
    refine s.classify_bad a0 a1 body (hbad.imp (fun hshort => ?_) fun hcrc => ?_)
    · rw [hcons, List.length_cons, List.length_cons] at hshort
      omega
    · rwa [hbuf, crcCovered_snoc, crcField_snoc]
  rw [State.integrityFail_eq, hbuf, crcCovered_snoc, crcField_snoc, List.length_append] at hfail
  exact .endOfFrame hcons hfail

/-- Settles O21. -/
theorem newFrameIsAccepted : Obligations.NewFrameIsAccepted := by
  intro s q m hi lo p hasm hcrc hnew hroom
  have haccept := s.acceptNew_room q m (p ++ [hi, lo]) hroom
  rw [payloadOf_snoc] at haccept
  exact .endOfFrame hasm ((State.classify_new hcrc hnew).trans haccept)

/-- Settles O22. -/
theorem fullFifoRefusesNewFrame : Obligations.FullFifoRefusesNewFrame := by
  intro s q m hi lo p hasm hcrc hnew hfull
  exact .endOfFrame hasm ((State.classify_new hcrc hnew).trans (s.acceptNew_full q m (p ++ [hi, lo]) hfull))

/-- Settles O23. -/
theorem replayIsAckedNotDelivered : Obligations.ReplayIsAckedNotDelivered := by
  intro s q m hi lo p hasm hcrc hlast
  exact .endOfFrame hasm ((State.classify_replay hcrc hlast).trans s.replay_eq)

/-- Settles O24. -/
theorem conflictIsNaked : Obligations.ConflictIsNaked := by
  intro s q m hi lo p l hasm hcrc hlast hseq hne
  exact .endOfFrame hasm ((State.classify_conflict hcrc hlast hseq hne).trans s.conflict_eq)

/-- Settles O52, by the event taken: a tick, a read and every other write keep `last` by `exec_keeps_last`. -/
theorem lastFrameChangesOnlyByAcceptance : Obligations.LastFrameChangesOnlyByAcceptance := by
  refine ⟨fun s t h => State.endOfFrame_ends_idle h, fun s t hstep hne => ?_⟩
  rcases step_cases s with ⟨-, hwait⟩ | ⟨e, rest, hinput, hrun⟩
  · rw [hwait] at hstep
    cases hstep
    exact absurd rfl hne
  rw [hrun] at hstep
  have hwrites : mayWriteLast (decodeEvent e) = true :=
    mayWriteLast_of_changes_last hstep hne
  cases e with
  | rxByte b =>
    obtain ⟨rfl, hreceives, hcheck⟩ := evRxByte_changes_last hstep hne
    obtain ⟨q, m, hi, lo, p, haccepted⟩ := State.endOfFrame_changes_last hcheck hne
    obtain ⟨hasm, hcrc, hroom, hnew, hlast⟩ := haccepted
    exact .inl ⟨rest, q, m, hi, lo, p, hinput, hreceives, hasm, hcrc, hroom, hnew, hlast⟩
  | tick => cases hwrites
  | host a =>
    obtain ⟨v, rfl⟩ := mayWriteLast_decodeHost hwrites
    obtain ⟨rfl, hnone⟩ := wrCmd_changes_last hstep hne
    exact .inr (.inl ⟨hnone, rest, hinput⟩)
  | reset =>
    cases hstep
    exact .inr (.inr ⟨rfl, rest, hinput⟩)

end Sys2Proof.Machine

/-! The tick of the send queue (R222 to R225): the 17-bit count does not wrap in the range of R38, so a tick compares
`elapsed + 1` with TIMEOUT as numbers; past it the head is sent again or dropped. -/

namespace Sys2Proof.Machine

/-- One more than a 17-bit number in the range of R38 is a 17-bit number. -/
theorem toNat_succ_of_le_65536 {e : BitVec 17} (h : e.toNat ≤ 65536) : (e + 1).toNat = e.toNat + 1 :=
  BitVec.toNat_add_of_lt (Nat.lt_of_le_of_lt (Nat.succ_le_succ h) (by decide))

/-! ### What a tick leads to (R222 to R225) -/

theorem exec_evTick (s : State) : exec .evTick s = .next s.tick := rfl

/-- A tick that only counts ends at most at TIMEOUT, a 16-bit number. -/
theorem State.tick_counts (s : State) (hen : s.ctrl.en = true) (hq : s.txq ≠ [])
    (hwithin : s.elapsed.toNat + 1 ≤ s.timeout.toNat) : s.tick = { s with elapsed := s.elapsed + 1 } := by
  have htimeout : s.timeout.toNat < 65536 := s.timeout.isLt
  refine s.tick_below hen hq ?_
  rwa [toNat_succ_of_le_65536 (by omega)]

section PastTimeout

variable (s : State) (f : TxFrame) (r : List TxFrame) (h : s.txq = f :: r) (hen : s.ctrl.en = true)
  (hrange : s.elapsed.toNat ≤ 65536) (hpast : s.timeout.toNat < s.elapsed.toNat + 1)

include h hen hrange hpast

theorem State.tick_attempts : s.tick = State.resendAttempt { s with elapsed := s.elapsed + 1 } := by
  refine s.tick_past hen (by simp [h]) ?_
  rwa [toNat_succ_of_le_65536 hrange]

theorem State.tick_retransmits (htries : s.tries.toNat ≤ s.maxTries.toNat) :
    s.tick =
      { s with
        tries := s.tries + 1, elapsed := 0
        txOut := s.txOut ++ f.wire
        cnt := s.cnt.bump .txRetry } := by
  rw [s.tick_attempts f r h hen hrange hpast]
  rcases State.resendAttempt_cons { s with elapsed := s.elapsed + 1 } f r h with ⟨hexhausted, -⟩ | ⟨-, hresend⟩
  · exact absurd hexhausted (not_lt.mpr htries)
  · exact hresend

/-- The count of the tick itself is lost: the start of the new head zeroes `elapsed`. -/
theorem State.tick_drops (htries : s.maxTries.toNat < s.tries.toNat) :
    s.tick =
      State.startHead
        { s with
          elapsed := s.elapsed + 1
          dropInfo := { seq := f.seq, marker := f.marker, cause := 0#1 }
          txq := r
          cnt := s.cnt.bump .txDrop
          lastEvt := 10#4
          irqPending := s.irqPending ||| 0x004#9 } := by
  rw [s.tick_attempts f r h hen hrange hpast]
  rcases State.resendAttempt_cons { s with elapsed := s.elapsed + 1 } f r h with ⟨-, hdrop⟩ | ⟨hleft, -⟩
  · exact hdrop.trans (State.drop_cons _ 0 f r h)
  · exact absurd htries (not_lt.mpr hleft)

end PastTimeout

/-- Settles O29: the three ways of a tick, and the drop by the length of the queue. -/
theorem tickCountsRetransmitsOrDrops : Obligations.TickCountsRetransmitsOrDrops := by
  intro s
  simp only [exec_evTick, Host.Outcome.next.injEq]
  refine ⟨s.tick_off, s.tick_counts, fun hen hrange hpast => ⟨fun f r h => ?retransmit, fun f h htries => ?dropLast,
    fun f g r h htries => ?dropNext⟩⟩
  case retransmit => exact s.tick_retransmits f r h hen hrange hpast
  case dropLast => rw [s.tick_drops f [] h hen hrange hpast htries, State.startHead_nil _ rfl]
  case dropNext => rw [s.tick_drops f (g :: r) h hen hrange hpast htries, State.startHead_cons _ g r rfl]

end Sys2Proof.Machine

/-! The host interface (R261 to R279): the command a word selects, what each command row leads to, the fields a register
write takes from its value, and the RX_DATA read. A statement `CommandRuns` has two halves, the row's own effect and the
write to CMD that selects the row; `CommandRuns.of_decode` joins the two. -/

namespace Sys2Proof.Machine

/-! ### The command a word selects (R111, R271) -/

theorem toInstr_cmdRow (v : Word) :
    (cmdRow v).toInstr =
      if v = 0#32 then .cmdNop else if v = 1#32 then .cmdEnqueue else if v = 2#32 then .cmdRxPop
      else if v = 3#32 then .cmdTxStageClr else if v = 4#32 then .cmdLinkReset
      else if v = 5#32 then .cmdCntClr else .cmdReserved v := by
  simp only [cmdRow, apply_ite CmdRow.toInstr]; rfl

/-- Every word from 6 on is reserved (R278). -/
theorem cmdRow_of_six_le {v : Word} (h : 6 ≤ v.toNat) : cmdRow v = .reserved v := by
  have hne (k : Word) (hk : k.toNat < 6) : v ≠ k := by
    rintro rfl
    exact absurd hk (not_lt.mpr h)
  rw [cmdRow, if_neg (hne 0 (by decide)), if_neg (hne 1 (by decide)), if_neg (hne 2 (by decide)),
    if_neg (hne 3 (by decide)), if_neg (hne 4 (by decide)), if_neg (hne 5 (by decide))]

/-- A command row's effect is also that of writing a word that selects the row. -/
theorem CommandRuns.of_decode {row : Instr} {v : Word} {s t : State} (hsel : (cmdRow v).toInstr = row)
    (hrow : exec row s = .next t) : CommandRuns row v s t :=
  ⟨hrow, by rw [wrCmd_eq, hsel, hrow]⟩

/-! ### What the command rows lead to (R272 to R278) -/

theorem State.txqFull_iff (s : State) : s.txqFull = true ↔ s.txq.length = s.params.txqDepth := beq_iff_eq

theorem State.stageFull_iff (s : State) : s.stageFull = true ↔ s.stage.length = s.params.txPayloadMax := beq_iff_eq

theorem exec_cmdNop (s : State) : exec .cmdNop s = .next s := rfl

theorem exec_cmdEnqueue_refused (s : State) (h : s.ctrl.en = false ∨ s.txq.length = s.params.txqDepth) :
    exec .cmdEnqueue s = .next s.reject := by
  rw [← s.txqFull_iff] at h
  exact if_pos h

theorem exec_cmdEnqueue_accepted (s : State) (hen : s.ctrl.en = true) (hroom : s.txq.length ≠ s.params.txqDepth) :
    exec .cmdEnqueue s = .next (State.qEnqueue { s with txSeq := s.txSeq + 1, stage := [] } s.stagedFrame) := by
  rw [ne_eq, ← s.txqFull_iff] at hroom
  exact if_neg (by simp [hen, hroom])

theorem exec_cmdRxPop_nil (s : State) (h : s.rxq = []) : exec .cmdRxPop s = .next s.reject := by
  show execCmdRxPop s = _
  rw [execCmdRxPop, h]

theorem exec_cmdRxPop_cons (s : State) (m : RxMsg) (r : List RxMsg) (h : s.rxq = m :: r) :
    exec .cmdRxPop s = .next { s with rxq := r, rdPtr := 0 } := by
  show execCmdRxPop s = _
  rw [execCmdRxPop, h]

theorem exec_cmdTxStageClr (s : State) : exec .cmdTxStageClr s = .next { s with stage := [] } := rfl

theorem exec_cmdLinkReset (s : State) :
    exec .cmdLinkReset s =
      .next
        { s with
          rxState := .idle, asm := [], last := none
          txq := [], tries := 0, elapsed := 0, txSeq := 1
          stage := [], rxq := [], rdPtr := 0 } := rfl

theorem exec_cmdCntClr (s : State) : exec .cmdCntClr s = .next { s with cnt := Counters.zero, lastEvt := 0 } := rfl

theorem exec_cmdReserved (v : Word) (s : State) : exec (.cmdReserved v) s = .next s.reject := rfl

/-- Every command row completes: the two that can be refused note the refusal and go on (R271, R279). -/
theorem exec_cmdRow_completes (r : CmdRow) (s : State) : ∃ t, exec r.toInstr s = .next t := by
  cases r with
  | enqueue =>
    by_cases h : s.ctrl.en = false ∨ s.txq.length = s.params.txqDepth
    · exact ⟨_, exec_cmdEnqueue_refused s h⟩
    · rw [not_or, Bool.not_eq_false] at h
      obtain ⟨hen, hroom⟩ := h
      exact ⟨_, exec_cmdEnqueue_accepted s hen hroom⟩
  | rxPop =>
    cases h : s.rxq with
    | nil => exact ⟨_, exec_cmdRxPop_nil s h⟩
    | cons m r => exact ⟨_, exec_cmdRxPop_cons s m r h⟩
  | _ => exact ⟨_, rfl⟩

/-! ### The fields of a written value (R262 to R265, R268, R270) -/

theorem extractLsb'_zero_eq_ofNat {w : Nat} (n : Nat) (v : BitVec w) :
    v.extractLsb' 0 n = BitVec.ofNat n (v.toNat % 2 ^ n) := by
  apply BitVec.eq_of_toNat_eq
  simp

theorem low8_eq (v : Word) : low8 v = BitVec.ofNat 8 (v.toNat % 256) := extractLsb'_zero_eq_ofNat 8 v

theorem low16_eq (v : Word) : low16 v = BitVec.ofNat 16 (v.toNat % 65536) := extractLsb'_zero_eq_ofNat 16 v

theorem getLsbD_low9 (v : Word) {i : Nat} (h : i < 9) : (low9 v).getLsbD i = v.getLsbD i := by
  simp [low9, h]

/-! ### What the register writes lead to (R262 to R270) -/

theorem exec_wrCtrl (v : Word) (s : State) : exec (.wrCtrl v) s = .next { s with ctrl := ctrlOf v } := rfl

theorem exec_wrMaxTries (v : Word) (s : State) : exec (.wrMaxTries v) s = .next { s with maxTries := low8 v } := rfl

theorem exec_wrTimeout (v : Word) (s : State) : exec (.wrTimeout v) s = .next { s with timeout := low16 v } := rfl

theorem exec_wrTxSeq (v : Word) (s : State) : exec (.wrTxSeq v) s = .next { s with txSeq := low8 v } := rfl

theorem exec_wrIrqPending (v : Word) (s : State) :
    exec (.wrIrqPending v) s = .next { s with irqPending := s.irqPending &&& ~~~low9 v } := rfl

theorem exec_wrTxData_full (v : Word) (s : State) (h : s.stage.length = s.params.txPayloadMax) :
    exec (.wrTxData v) s = .next s.reject :=
  if_pos (s.stageFull_iff.mpr h)

theorem exec_wrTxData_room (v : Word) (s : State) (h : s.stage.length ≠ s.params.txPayloadMax) :
    exec (.wrTxData v) s = .next { s with stage := s.stage ++ [low8 v] } :=
  if_neg (mt s.stageFull_iff.mp h)

/-! ### The RX_DATA read (R266) -/

/-- VALID is bit 31 above a byte, so its append is a sum. -/
theorem validByte_eq (b : Byte) : 0x800000#24 ++ b = BitVec.ofNat 32 (0x80000000 + b.toNat) := by
  have hbyte : b.toNat < 2 ^ 8 := b.isLt
  apply BitVec.eq_of_toNat_eq
  rw [BitVec.toNat_append, ← Nat.shiftLeft_add_eq_or_of_lt hbyte, Nat.shiftLeft_eq, BitVec.toNat_ofNat,
    BitVec.toNat_ofNat]
  omega

theorem State.rxDataByte_nil (s : State) (h : s.rxq = []) : s.rxDataByte = none := by
  rw [State.rxDataByte, h]

theorem State.rxDataByte_cons (s : State) (m : RxMsg) (r : List RxMsg) (h : s.rxq = m :: r) :
    s.rxDataByte = m.payload[s.rdPtr.toNat]? := by
  rw [State.rxDataByte, h]

theorem exec_rdRxData_some (s : State) (b : Byte) (h : s.rxDataByte = some b) :
    exec .rdRxData s =
      .next { s with rdPtr := s.rdPtr + 1, busOut := s.busOut ++ [.data (0x800000#24 ++ b)] } := by
  show execRdRxData s = _
  rw [execRdRxData, h]; rfl

theorem readAnswers_rdRxData_none (s : State) (h : s.rxDataByte = none) : ReadAnswers .rdRxData s 0 := by
  show execRdRxData s = _
  rw [execRdRxData, h]; rfl

/-! ### The statements -/

/-- Settles O30. -/
theorem commandWriteRunsItsRow : Obligations.CommandWriteRunsItsRow := by
  intro s v
  rw [wrCmd_eq]
  exact ⟨exec_cmdRow_completes (cmdRow v) s, by rw [toInstr_cmdRow]⟩

/-- Settles O31: the accepted request by whether the queue it finds is empty (R220). -/
theorem enqueueEncodesAndSendsWhenIdle : Obligations.EnqueueEncodesAndSendsWhenIdle := by
  intro s mk w
  refine ⟨fun h => .of_decode rfl (exec_cmdEnqueue_refused s h), fun hen hroom hq => .of_decode rfl ?sent,
    fun hen hroom hq => .of_decode rfl ?waits⟩
  case sent =>
    rw [exec_cmdEnqueue_accepted s hen hroom, State.qEnqueue_nil]
    · rfl
    · exact hq
  case waits =>
    rw [exec_cmdEnqueue_accepted s hen hroom, State.qEnqueue_cons]
    · rfl
    · exact hq

/-- Settles O32: each refusal is `State.reject`. -/
theorem refusedRequestOnlyNotes : Obligations.RefusedRequestOnlyNotes := by
  intro s v t
  refine ⟨fun h => .of_decode rfl (exec_cmdEnqueue_refused s h), fun h => .of_decode rfl (exec_cmdRxPop_nil s h),
    exec_wrTxData_full v s, exec_cmdReserved v s, fun h => ?reservedWord⟩
  case reservedWord =>
    rw [wrCmd_eq, cmdRow_of_six_le h]
    exact exec_cmdReserved v s

/-- Settles O33. -/
theorem plainCommandsDoOnlyTheirPart : Obligations.PlainCommandsDoOnlyTheirPart := by
  intro s
  exact ⟨.of_decode rfl (exec_cmdNop s),
    fun m r h => .of_decode rfl (exec_cmdRxPop_cons s m r h),
    fun h => .of_decode rfl (exec_cmdRxPop_nil s h),
    .of_decode rfl (exec_cmdTxStageClr s),
    Counters.zero, Counters.get_zero, .of_decode rfl (exec_cmdCntClr s)⟩

/-- Settles O34. -/
theorem linkResetClearsLinkState : Obligations.LinkResetClearsLinkState :=
  fun s => .of_decode rfl (exec_cmdLinkReset s)

/-- Settles O35. -/
theorem configurationWriteSetsItsField : Obligations.ConfigurationWriteSetsItsField := by
  intro s v
  rw [← low8_eq, ← low16_eq]
  exact ⟨exec_wrCtrl v s, exec_wrMaxTries v s, exec_wrTimeout v s, exec_wrTxSeq v s⟩

/-- Settles O36. -/
theorem irqPendingWriteClearsOnes : Obligations.IrqPendingWriteClearsOnes := by
  intro s v
  refine ⟨_, exec_wrIrqPending v s, fun i hi => ?_⟩
  rw [BitVec.getLsbD_and, BitVec.getLsbD_not, getLsbD_low9 v hi, decide_eq_true hi, Bool.true_and]

/-- Settles O37. -/
theorem dataWriteStagesOrIsRefused : Obligations.DataWriteStagesOrIsRefused := by
  intro s v
  rw [← low8_eq]
  exact ⟨exec_wrTxData_room v s, exec_wrTxData_full v s⟩

/-- Settles O42: a byte is left exactly while the read index is inside the head message's payload. -/
theorem rxDataReadReturnsNextByte : Obligations.RxDataReadReturnsNextByte := by
  intro s
  refine ⟨fun m r hleft hq => ?byteLeft, fun hq => readAnswers_rdRxData_none s (s.rxDataByte_nil hq),
    fun m r hq hend => readAnswers_rdRxData_none s ?pastEnd⟩
  case byteLeft =>
    rw [← validByte_eq]
    exact exec_rdRxData_some s _ ((s.rxDataByte_cons m r hq).trans (List.getElem?_eq_getElem hleft))
  case pastEnd => exact (s.rxDataByte_cons m r hq).trans (List.getElem?_eq_none hend)

end Sys2Proof.Machine

/-! The pending interrupts (R268, R269, R310 to R312): the output as a level over the enabled ones, and who can clear one.
The causes of R310 only ever set bits: `State.KeepsPending` says of two states that no bit pending in the first is lost in
the second. `mayClearPending` names the four operations for which that can fail, and `exec_keeps_pending` is its proof for
all the others. -/

namespace Sys2Proof.Machine

/-! ### The interrupt output (R269, R311) -/

theorem State.irqOut_iff (s : State) :
    s.irqOut = true ↔ ∃ i, s.irqPending.getLsbD i = true ∧ s.irqEnable.getLsbD i = true := by
  have hnone : s.irqPending &&& s.irqEnable = 0 ↔ ∀ i, (s.irqPending &&& s.irqEnable).getLsbD i = false :=
    BitVec.zero_iff_eq_false
  rw [State.irqOut, bne_iff_ne, ne_eq, hnone, not_forall]
  simp only [BitVec.getLsbD_and, Bool.not_eq_false, Bool.and_eq_true]

theorem low9_eq (v : Word) : low9 v = BitVec.ofNat 9 (v.toNat % 512) := extractLsb'_zero_eq_ofNat 9 v

theorem exec_wrIrqEnable (v : Word) (s : State) :
    exec (.wrIrqEnable v) s = .next { s with irqEnable := low9 v } := rfl

/-- Only nine bits can be pending, so the enables written decide the output as the whole word does. -/
theorem State.irqOut_enabledBy_iff (s : State) (v : Word) :
    State.irqOut { s with irqEnable := low9 v } = true ↔
      ∃ i, s.irqPending.getLsbD i = true ∧ v.getLsbD i = true := by
  rw [State.irqOut_iff]
  refine exists_congr fun i => and_congr_right fun hpending => ?_
  rw [getLsbD_low9 v (BitVec.lt_of_getLsbD hpending)]

/-- Settles O38. -/
theorem interruptOutputIsLevel : Obligations.InterruptOutputIsLevel := by
  intro s v
  rw [← low9_eq]
  exact ⟨s.irqOut_iff, exec_wrIrqEnable v s, s.irqOut_enabledBy_iff v⟩

/-! ### Setting a pending bit (R310) -/

theorem getLsbD_one_shiftLeft {w i : Nat} (b : Fin w) : (1#w <<< b.val).getLsbD i = decide (i = b.val) := by
  rw [← BitVec.twoPow_eq, BitVec.getLsbD_twoPow, decide_eq_true b.isLt, Bool.true_and]
  exact decide_eq_decide.mpr eq_comm

theorem State.irq_getLsbD (s : State) (b : Fin 9) (i : Nat) :
    (s.irq b).irqPending.getLsbD i = (decide (i = b.val) || s.irqPending.getLsbD i) := by
  rw [State.irq_irqPending, BitVec.getLsbD_or, getLsbD_one_shiftLeft, Bool.or_comm]

/-! ### Keeping the pending bits: the shared operations -/

/-- No bit pending in `s` is lost in `t`. -/
def State.KeepsPending (s t : State) : Prop :=
  ∀ i, s.irqPending.getLsbD i = true → t.irqPending.getLsbD i = true

theorem State.KeepsPending.of_eq {s t : State} (h : t.irqPending = s.irqPending) : s.KeepsPending t := by
  intro i hi
  rwa [h]

theorem State.KeepsPending.of_or {s t : State} {m : BitVec 9} (h : t.irqPending = s.irqPending ||| m) :
    s.KeepsPending t := by
  intro i hi
  rw [h, BitVec.getLsbD_or, hi, Bool.true_or]

theorem State.reject_keepsPending (s : State) : s.KeepsPending s.reject := .of_or s.reject_irqPending

theorem State.append_keepsPending (s : State) (b : Byte) (st : RxState) : s.KeepsPending (s.append b st) := by
  unfold State.append
  split
  next hfull => exact .of_or (State.anomaly_irqPending _ _ _ _)
  next hroom => exact .of_eq rfl

@[simp] theorem State.startHead_irqPending (s : State) : s.startHead.irqPending = s.irqPending := by
  simp only [State.startHead]; split <;> rfl

@[simp] theorem State.qEnqueue_irqPending (s : State) (f : TxFrame) : (s.qEnqueue f).irqPending = s.irqPending := by
  simp only [State.qEnqueue, apply_ite State.irqPending, State.startHead_irqPending, ite_self]

@[simp] theorem State.retransmit_irqPending (s : State) : s.retransmit.irqPending = s.irqPending := by
  simp only [State.retransmit]; split <;> rfl

theorem State.drop_keepsPending (s : State) (c : BitVec 1) : s.KeepsPending (s.drop c) := by
  cases hq : s.txq with
  | nil => exact .of_eq (by simp only [State.drop, hq])
  | cons f r => exact .of_or (by rw [s.drop_cons c f r hq, State.startHead_irqPending])

theorem State.resendAttempt_keepsPending (s : State) : s.KeepsPending s.resendAttempt := by
  unfold State.resendAttempt
  split
  next hexhausted => exact s.drop_keepsPending 0
  next hleft => exact .of_eq s.retransmit_irqPending

theorem State.onAck_keepsPending (s : State) : s.KeepsPending s.onAck := by
  cases hq : s.txq with
  | nil => exact .of_eq (by rw [s.onAck_nil hq])
  | cons f r => exact .of_or (by rw [s.onAck_cons f r hq, State.startHead_irqPending])

theorem State.onNak_keepsPending (s : State) : s.KeepsPending s.onNak := by
  by_cases hkeep : s.txq = [] ∨ s.tries.toNat ≤ s.maxTries.toNat
  · exact .of_eq (by rw [s.onNak_keep hkeep])
  · obtain ⟨hq, htries⟩ := not_or.mp hkeep
    rw [s.onNak_drop hq (not_le.mp htries)]
    exact State.drop_keepsPending { s with cnt := s.cnt.bump .nakRx } 1

theorem State.tick_keepsPending (s : State) : s.KeepsPending s.tick := by
  by_cases hoff : s.ctrl.en = false ∨ s.txq = []
  · exact .of_eq (by rw [s.tick_off hoff])
  · rw [not_or, Bool.not_eq_false] at hoff
    obtain ⟨hen, hq⟩ := hoff
    rcases Nat.lt_or_ge s.timeout.toNat (s.elapsed + 1).toNat with hpast | hwithin
    · rw [s.tick_past hen hq hpast]
      exact State.resendAttempt_keepsPending { s with elapsed := s.elapsed + 1 }
    · exact .of_eq (by rw [s.tick_below hen hq hwithin])

theorem State.acceptNew_keepsPending (s : State) (a0 a1 : Byte) (body : List Byte) :
    s.KeepsPending (s.acceptNew a0 a1 body) := by
  by_cases hfull : s.rxq.length = s.params.rxqDepth
  · exact .of_or (by rw [s.acceptNew_full a0 a1 body hfull])
  · exact .of_or (by rw [s.acceptNew_room a0 a1 body hfull])

/-- Each verdict on a frame sets its own bit and clears none. -/
theorem State.classify_keepsPending (s : State) (a0 a1 : Byte) (body : List Byte) :
    s.KeepsPending (s.classify a0 a1 body) := by
  rcases s.classify_cases a0 a1 body with
    ⟨-, hfail⟩ | ⟨-, -, ⟨-, haccept⟩ | ⟨l, -, -, ⟨-, hreplay⟩ | ⟨-, hconflict⟩⟩⟩
  · exact .of_or (by rw [hfail, State.integrityFail_eq])
  · exact haccept ▸ s.acceptNew_keepsPending a0 a1 body
  · exact .of_or (by rw [hreplay, State.replay_eq])
  · exact .of_or (by rw [hconflict, State.conflict_eq])

theorem State.endOfFrame_keepsPending {s t : State} (h : s.endOfFrame = .next t) : s.KeepsPending t := by
  obtain ⟨a0, a1, body, -, rfl⟩ := s.endOfFrame_next t h
  exact s.classify_keepsPending a0 a1 body

/-! ### Keeping the pending bits: the operations -/

/-- The operations that can clear a pending bit: the two that do, and the two dispatches until their row is known. -/
def mayClearPending : Instr → Bool
  | .wrIrqPending _ | .evReset | .evRxByte _ | .wrCmd _ => true
  | _ => false

theorem exec_keeps_pending {i : Instr} {s t : State} (hi : mayClearPending i = false) (h : exec i s = .next t) :
    s.KeepsPending t := by
  cases i with
  | wrIrqPending | evReset | evRxByte | wrCmd => cases hi
  | rxSeqData | rxSescEsc | rxTypeMk11 | rxTypeMk91 | rxInfoData | rxIfescEsc =>
    cases h; exact s.append_keepsPending _ _
  | rxSescBad | rxTypeBad | rxIfescSof | rxIfescBad => cases h; exact .of_or (State.anomaly_irqPending _ _ _ _)
  | rxIescAck | rxIfescAck => cases h; exact s.onAck_keepsPending
  | rxIescNak => cases h; exact s.onNak_keepsPending
  | rxIfescEof => exact State.endOfFrame_keepsPending h
  | evTick => cases h; exact s.tick_keepsPending
  | cmdReserved => cases h; exact s.reject_keepsPending
  | cmdEnqueue =>
    simp only [exec, execCmdEnqueue] at h
    split at h
    · cases h; exact s.reject_keepsPending
    · cases h; exact .of_eq (State.qEnqueue_irqPending _ _)
  | cmdRxPop =>
    simp only [exec, execCmdRxPop] at h
    split at h
    · cases h; exact s.reject_keepsPending
    · cases h; exact .of_eq rfl
  | wrTxData v =>
    simp only [exec, execWrTxData] at h
    split at h
    · cases h; exact s.reject_keepsPending
    · cases h; exact .of_eq rfl
  | hostBusError a => cases a <;> (cases h; exact .of_eq rfl)
  | rdRxData =>
    simp only [exec, execRdRxData] at h
    split at h <;> (cases h; exact .of_eq rfl)
  | _ => cases h; exact .of_eq rfl

theorem mayClearPending_toInstr_rxRow (r : RxRow) : mayClearPending r.toInstr = false := by
  cases r <;> rfl

theorem mayClearPending_toInstr_cmdRow (r : CmdRow) : mayClearPending r.toInstr = false := by
  cases r <;> rfl

/-- No received byte clears a pending bit, whichever row it selects. -/
theorem evRxByte_keeps_pending {s t : State} {b : Byte} (h : exec (.evRxByte b) s = .next t) : s.KeepsPending t := by
  cases hen : s.ctrl.en with
  | false =>
    rw [evRxByte_disabled s b hen] at h
    cases h
    exact .of_eq rfl
  | true =>
    rw [evRxByte_enabled s b hen] at h
    exact exec_keeps_pending (mayClearPending_toInstr_rxRow _) h

/-- No command clears a pending bit, LINK_RESET and CNT_CLR included. -/
theorem wrCmd_keeps_pending {s t : State} {v : Word} (h : exec (.wrCmd v) s = .next t) : s.KeepsPending t := by
  rw [wrCmd_eq] at h
  exact exec_keeps_pending (mayClearPending_toInstr_cmdRow _) h

/-- A pending bit that an IRQ_PENDING write clears was written as 1 (R268). -/
theorem wrIrqPending_clears {s t : State} {v : Word} {i : Nat} (h : exec (.wrIrqPending v) s = .next t)
    (hset : s.irqPending.getLsbD i = true) (hclear : t.irqPending.getLsbD i = false) : v.getLsbD i = true := by
  have hi : i < 9 := BitVec.lt_of_getLsbD hset
  rw [exec_wrIrqPending] at h
  cases h
  rwa [BitVec.getLsbD_and, BitVec.getLsbD_not, hset, decide_eq_true hi, Bool.true_and, Bool.true_and,
    getLsbD_low9 v hi, Bool.not_eq_false'] at hclear

/-- An operation that clears a pending bit is Reset or an IRQ_PENDING write with a 1 at that bit (R312). -/
theorem exec_clears_pending {op : Instr} {s t : State} {i : Nat} (h : exec op s = .next t)
    (hset : s.irqPending.getLsbD i = true) (hclear : t.irqPending.getLsbD i = false) :
    op = .evReset ∨ ∃ v, op = .wrIrqPending v ∧ v.getLsbD i = true := by
  have hlost : ¬ s.KeepsPending t := fun hkeeps => by simp [hkeeps i hset] at hclear
  have hop : mayClearPending op = true := Bool.of_not_eq_false fun hop => hlost (exec_keeps_pending hop h)
  cases op with
  | evReset => exact .inl rfl
  | wrIrqPending v => exact .inr ⟨v, rfl, wrIrqPending_clears h hset hclear⟩
  | evRxByte b => exact absurd (evRxByte_keeps_pending h) hlost
  | wrCmd v => exact absurd (wrCmd_keeps_pending h) hlost
  | _ => cases hop

/-! ### Which event selects an operation (R46, R109) -/

/-- One entry of a register map: its row has the code of its offset if the row at `k` has the code of `k`. -/
theorem encode_ite_offset (code : Offset → Code) {off k : Offset} {row other : Instr} (hrow : encode row = code k)
    (hother : encode other = code off) : encode (if off = k then row else other) = code off := by
  split
  next hoff => rw [hrow, hoff]
  next => exact hother

/-- The named registers one by one, then the misaligned and the reserved offsets. -/
theorem encode_readRow (off : Offset) : encode (readRow off) = readCode off := by
  unfold readRow
  repeat refine encode_ite_offset readCode rfl ?_
  split_ifs <;> rfl

theorem encode_writeRow (off : Offset) (v : Word) : encode (writeRow off v) = writeCode off v := by
  unfold writeRow
  repeat refine encode_ite_offset (writeCode · v) rfl ?_
  rfl

theorem busErrorAccess_eq_false_iff {off : Offset} {n : Nat} :
    busErrorAccess off n = false ↔ n = 4 ∧ off.toNat % 4 = 0 := by
  simp [busErrorAccess]

theorem encode_decodeHost (a : HostAccess) : encode (decodeHost a) = .event (.host a) := by
  cases a with
  | read off n =>
    cases hbus : busErrorAccess off n with
    | true => simp only [decodeHost, hbus]; rfl
    | false =>
      obtain ⟨rfl, -⟩ := busErrorAccess_eq_false_iff.mp hbus
      simp only [decodeHost, hbus]
      exact encode_readRow off
  | write off n v =>
    cases hbus : busErrorAccess off n with
    | true => simp only [decodeHost, hbus]; rfl
    | false =>
      obtain ⟨rfl, -⟩ := busErrorAccess_eq_false_iff.mp hbus
      simp only [decodeHost, hbus]
      exact encode_writeRow off v

/-- An event's operation has that event for its code, so no two events select the same operation. -/
theorem encode_decodeEvent (e : Event) : encode (decodeEvent e) = .event e := by
  cases e with
  | host a => exact encode_decodeHost a
  | rxByte | tick | reset => rfl

theorem eq_of_encode_decodeEvent {e e' : Event} {op : Instr} (hop : decodeEvent e = op)
    (hcode : encode op = .event e') : e = e' := by
  rw [← hop, encode_decodeEvent] at hcode
  exact Code.event.inj hcode

/-- Settles O53: the operation that clears the bit is one of two, and its code is the event. -/
theorem pendingBitsAreSticky : Obligations.PendingBitsAreSticky := by
  refine ⟨State.irq_getLsbD, fun s t i hstep hset hclear => ?_⟩
  rcases step_cases s with ⟨-, hwait⟩ | ⟨e, rest, hinput, hrun⟩
  · rw [hwait] at hstep
    cases hstep
    exact absurd (hset.symm.trans hclear) (by decide)
  rw [hrun] at hstep
  rcases exec_clears_pending hstep hset hclear with hreset | ⟨v, hwrite, hone⟩
  · obtain rfl := eq_of_encode_decodeEvent hreset rfl
    exact .inl ⟨rest, hinput⟩
  · obtain rfl := eq_of_encode_decodeEvent hwrite rfl
    exact .inr ⟨v, rest, hinput, hone⟩

end Sys2Proof.Machine

/-! The encoding (R106, R109 to R112): the decoder read off a receive decode word, and the two directions between
operations and codes. The round trip needs well-formedness only where a row is a catch-all: there the operand must be one
that no row before it takes. -/

namespace Sys2Proof.Machine

/-! ### Receive decode words (R106) -/

theorem RxState.ofCode_code (st : RxState) : RxState.ofCode st.code = some st := by
  cases st <;> rfl

theorem RxState.code_of_ofCode {c : BitVec 3} {st : RxState} (h : RxState.ofCode c = some st) : st.code = c := by
  revert c
  cases st <;> decide

theorem decode_rxWord (m : Markers) (st : RxState) (b : Byte) :
    decode m (.rx (rxWord st b)) = .ok (rxRow m st b).toInstr := by
  have hstate : (rxWord st b).extractLsb' 8 3 = st.code := BitVec.extractLsb'_append_eq_left
  have hbyte : (rxWord st b).extractLsb' 0 8 = b := BitVec.extractLsb'_append_eq_right
  simp only [decode, hstate, hbyte, RxState.ofCode_code]

/-- A receive decode word is its state code above its byte. -/
theorem append_extractLsb'_rx (w : BitVec 11) : w.extractLsb' 8 3 ++ w.extractLsb' 0 8 = w :=
  (BitVec.extractLsb'_append_extractLsb'_eq_extractLsb' (x := w) rfl).trans BitVec.extractLsb'_eq_self

/-- A receive word that decodes is that of a receive state and a byte. -/
theorem exists_rxWord_of_decode {m : Markers} {w : BitVec 11} {i : Instr} (h : decode m (.rx w) = .ok i) :
    ∃ st b, w = rxWord st b ∧ i = (rxRow m st b).toInstr := by
  simp only [decode] at h
  split at h
  next st hst =>
    cases h
    exact ⟨st, _, by rw [rxWord, RxState.code_of_ofCode hst, append_extractLsb'_rx], rfl⟩
  next => cases h

/-! ### From an operation to its code and back -/

/-- The well-formedness check and the decoder ask for alignment in two ways. -/
theorem wordAccess_eq (off : Offset) (n : Nat) : wordAccess off n = !busErrorAccess off n := by
  have halign : (off.extractLsb' 0 2 == 0#2) = !(off.toNat % 4 != 0) := by
    revert off; decide
  rw [wordAccess, busErrorAccess, halign, Bool.not_or, bne, bne, Bool.not_not, Bool.not_not]

theorem wordAccess_iff {off : Offset} : wordAccess off 4 = true ↔ off.toNat % 4 = 0 := by
  simp [wordAccess_eq, busErrorAccess]

theorem decodeHost_aligned_read {off : Offset} (h : off.toNat % 4 = 0) : decodeHost (.read off 4) = readRow off := by
  simp [decodeHost, busErrorAccess, h]

theorem decodeHost_aligned_write {off : Offset} (v : Word) (h : off.toNat % 4 = 0) :
    decodeHost (.write off 4 v) = writeRow off v := by
  simp [decodeHost, busErrorAccess, h]

theorem readRow_reserved058 {off : Offset} (halign : off.toNat % 4 = 0) (h : off &&& 0xF8 = 0x58) :
    readRow off = .rdReserved058 off := by
  revert off; decide

theorem readRow_reserved060 {off : Offset} (halign : off.toNat % 4 = 0) (h : off &&& 0xE0 = 0x60) :
    readRow off = .rdReserved060 off := by
  revert off; decide

theorem readRow_reserved0C0 {off : Offset} (halign : off.toNat % 4 = 0) (h : off &&& 0xC0 = 0xC0) :
    readRow off = .rdReserved0C0 off := by
  revert off; decide

theorem writeRow_ignored {off : Offset} (v : Word) (h : off ∉ writableOffsets) :
    writeRow off v = .wrIgnored off v := by
  simp only [writableOffsets, List.mem_cons, List.not_mem_nil, or_false, not_or] at h
  obtain ⟨h0, h1, h2, h3, h4, h5, h6, h7⟩ := h
  rw [writeRow, if_neg h0, if_neg h1, if_neg h2, if_neg h3, if_neg h4, if_neg h5, if_neg h6, if_neg h7]

/-- A reserved read row decodes back once its range is known to select it (R63). -/
theorem decode_readCode_reserved {m : Markers} {off : Offset} {row : Instr} {inRange : Bool}
    (hrow : off.toNat % 4 = 0 → inRange = true → readRow off = row) (hwf : (wordAccess off 4 && inRange) = true) :
    decode m (readCode off) = .ok row := by
  obtain ⟨hword, hrange⟩ := Bool.and_eq_true_iff.mp hwf
  have halign := wordAccess_iff.mp hword
  rw [readCode, decode, decodeEvent, decodeHost_aligned_read halign, hrow halign hrange]

/-- Settles O1, row by row: a row of one word decodes by evaluation, a catch-all row passes the rows before it because
its operand is well formed. -/
theorem decodeEncodeAgree : Obligations.DecodeEncodeAgree := by
  intro m i hwf
  cases i with
  | rxIdleStray b =>
    have hb : b ≠ 0x10#8 := by simpa [Instr.wellFormed] using hwf
    rw [encode, decode_rxWord, toInstr_rxRow_idle, if_neg hb]
  | rxIescOther b =>
    have hb : (b ≠ 0x00#8 ∧ b ≠ 0x11#8) ∧ b ≠ 0x12#8 := by simpa [Instr.wellFormed] using hwf
    obtain ⟨⟨hsof, hack⟩, hnak⟩ := hb
    rw [encode, decode_rxWord, toInstr_rxRow_idleEscape, if_neg hsof, if_neg hack, if_neg hnak]
  | rxSeqData b =>
    have hb : b ≠ 0x10#8 := by simpa [Instr.wellFormed] using hwf
    rw [encode, decode_rxWord, toInstr_rxRow_seqNo, if_neg hb]
  | rxSescBad b =>
    have hb : b ≠ 0x10#8 := by simpa [Instr.wellFormed] using hwf
    rw [encode, decode_rxWord, toInstr_rxRow_seqNoEscape, if_neg hb]
  | rxTypeMk11 =>
    have hacc : m.acc11 = true := hwf
    rw [encode, decode_rxWord, toInstr_rxRow_type, if_pos ⟨rfl, hacc⟩]
  | rxTypeMk91 =>
    have hacc : m.acc91 = true := hwf
    rw [encode, decode_rxWord, toInstr_rxRow_type, if_neg fun h => absurd h.1 (by decide), if_pos ⟨rfl, hacc⟩]
  | rxTypeBad b =>
    have hunknown : (!m.known b) = true := hwf
    rw [encode, decode_rxWord, rxRow, if_neg (by simpa using hunknown), RxRow.toInstr]
  | rxInfoData b =>
    have hb : b ≠ 0x10#8 := by simpa [Instr.wellFormed] using hwf
    rw [encode, decode_rxWord, toInstr_rxRow_infoFrame, if_neg hb]
  | rxIfescBad b =>
    have hb : ((b ≠ 0x10#8 ∧ b ≠ 0xFF#8) ∧ b ≠ 0x11#8) ∧ b ≠ 0x00#8 := by simpa [Instr.wellFormed] using hwf
    obtain ⟨⟨⟨hesc, heof⟩, hack⟩, hsof⟩ := hb
    rw [encode, decode_rxWord, toInstr_rxRow_infoFrameEscape, if_neg hesc, if_neg heof, if_neg hack, if_neg hsof]
  | cmdReserved v =>
    have hv : 6 ≤ v.toNat := by simpa [Instr.wellFormed] using hwf
    rw [encode, decode, cmdRow_of_six_le hv, CmdRow.toInstr]
  | hostBusError a =>
    cases a with
    | read off n | write off n v =>
      have hbus : busErrorAccess off n = true := by simpa [Instr.wellFormed, wordAccess_eq] using hwf
      simp [encode, decode, decodeEvent, decodeHost, hbus]
  | rdReserved058 off => exact decode_readCode_reserved (fun ha hr => readRow_reserved058 ha (eq_of_beq hr)) hwf
  | rdReserved060 off => exact decode_readCode_reserved (fun ha hr => readRow_reserved060 ha (eq_of_beq hr)) hwf
  | rdReserved0C0 off => exact decode_readCode_reserved (fun ha hr => readRow_reserved0C0 ha (eq_of_beq hr)) hwf
  | wrIgnored off v =>
    obtain ⟨hword, hoff⟩ := Bool.and_eq_true_iff.mp hwf
    have hignored : off ∉ writableOffsets := by simpa using hoff
    rw [encode, writeCode, decode, decodeEvent, decodeHost_aligned_write v (wordAccess_iff.mp hword),
      writeRow_ignored v hignored]
  | _ => rfl

/-! ### From a code to its operation and back -/

theorem rxRow_wellFormed (m : Markers) (st : RxState) (b : Byte) : (rxRow m st b).toInstr.wellFormed m = true := by
  cases st with
  | type =>
    rw [toInstr_rxRow_type]
    split_ifs with h11 h91
    · exact h11.2
    · exact h91.2
    · have hunknown : ¬ m.known b = true := mt (Markers.known_iff m b).mp (not_or.mpr ⟨h11, h91⟩)
      show (!m.known b) = true
      rw [eq_false_of_ne_true hunknown, Bool.not_false]
  | _ => simp only [rxRow]; split_ifs <;> simp_all [RxRow.toInstr, Instr.wellFormed]

theorem encode_rxRow (m : Markers) (st : RxState) (b : Byte) :
    encode (rxRow m st b).toInstr = .rx (rxWord st b) := by
  cases st with
  | type =>
    rw [toInstr_rxRow_type]
    split_ifs with h11 h91
    · rw [h11.1]; rfl
    · rw [h91.1]; rfl
    · rfl
  | _ => simp only [rxRow]; split_ifs <;> simp_all [RxRow.toInstr, encode]

theorem cmdRow_wellFormed (m : Markers) (v : Word) : (cmdRow v).toInstr.wellFormed m = true := by
  unfold cmdRow
  split_ifs with h0 h1 h2 h3 h4 h5
  case neg =>
    have hreserved : 6 ≤ v.toNat := by bv_omega
    simpa [CmdRow.toInstr, Instr.wellFormed] using hreserved
  all_goals rfl

theorem encode_cmdRow (v : Word) : encode (cmdRow v).toInstr = .cmd v := by
  unfold cmdRow
  split_ifs with h0 h1 h2 h3 h4 h5
  case neg => rfl
  all_goals subst v; rfl

/-- The register map has 256 offsets, and no row of it asks for more of the marker enables than their type. -/
theorem readRow_wellFormed (m : Markers) {off : Offset} (halign : off.toNat % 4 = 0) :
    (readRow off).wellFormed m = true := by
  obtain ⟨acc11, acc91⟩ := m
  revert acc11 acc91 off; decide

theorem writeRow_wellFormed (m : Markers) {off : Offset} (v : Word) (halign : off.toNat % 4 = 0) :
    (writeRow off v).wellFormed m = true := by
  by_cases hoff : off ∈ writableOffsets
  · simp only [writableOffsets, List.mem_cons, List.not_mem_nil, or_false] at hoff
    rcases hoff with rfl | rfl | rfl | rfl | rfl | rfl | rfl | rfl <;> rfl
  · rw [writeRow_ignored v hoff]
    simp [Instr.wellFormed, wordAccess_iff.mpr halign, hoff]

theorem decodeHost_wellFormed (m : Markers) (a : HostAccess) : (decodeHost a).wellFormed m = true := by
  cases a with
  | read off n =>
    cases hbus : busErrorAccess off n with
    | true => simp [decodeHost, hbus, Instr.wellFormed, wordAccess_eq]
    | false =>
      obtain ⟨rfl, halign⟩ := busErrorAccess_eq_false_iff.mp hbus
      rw [decodeHost_aligned_read halign]
      exact readRow_wellFormed m halign
  | write off n v =>
    cases hbus : busErrorAccess off n with
    | true => simp [decodeHost, hbus, Instr.wellFormed, wordAccess_eq]
    | false =>
      obtain ⟨rfl, halign⟩ := busErrorAccess_eq_false_iff.mp hbus
      rw [decodeHost_aligned_write v halign]
      exact writeRow_wellFormed m v halign

theorem decodeEvent_wellFormed (m : Markers) (e : Event) : (decodeEvent e).wellFormed m = true := by
  cases e with
  | host a => exact decodeHost_wellFormed m a
  | rxByte | tick | reset => rfl

/-- Settles O2, by the kind of the code. -/
theorem decodedOperationsEncodeBack : Obligations.DecodedOperationsEncodeBack := by
  intro m c i h
  cases c with
  | rx w =>
    obtain ⟨st, b, rfl, rfl⟩ := exists_rxWord_of_decode h
    exact ⟨rxRow_wellFormed m st b, encode_rxRow m st b⟩
  | cmd v =>
    cases h
    exact ⟨cmdRow_wellFormed m v, encode_cmdRow v⟩
  | event e =>
    cases h
    exact ⟨decodeEvent_wellFormed m e, encode_decodeEvent e⟩

/-- Settles O3: the row is the decoder's, and any other with that code would be decoded from it, too. -/
theorem everyReceiveWordSelectsOneRow : Obligations.EveryReceiveWordSelectsOneRow := by
  intro m st b
  refine ⟨(rxRow m st b).toInstr, ⟨rxRow_wellFormed m st b, encode_rxRow m st b⟩, ?_⟩
  rintro i ⟨hwf, hcode⟩
  have hdecode := decodeEncodeAgree m i hwf
  rw [hcode, decode_rxWord] at hdecode
  exact (Except.ok.inj hdecode).symm

/-- Settles O4. -/
theorem sampleWordsDecode : Obligations.SampleWordsDecode := by
  unfold Obligations.SampleWordsDecode
  decide

/-- Settles O5: a byte's row and a command's row are what the event's operation dispatches to. -/
theorem stepRunsDecodedOperation : Obligations.StepRunsDecodedOperation := by
  intro s
  refine ⟨step_of_no_input s, fun e rest hinput => ⟨fun i h => ?event, fun b i he hen h => ?byte,
    fun v i he h => ?command⟩⟩
  case event =>
    cases h
    exact step_of_input s e rest hinput
  case byte =>
    rw [decode_rxWord] at h
    cases h
    rw [step_of_input s e rest hinput, he]
    exact evRxByte_enabled { s with input := rest } b hen
  case command =>
    cases h
    rw [step_of_input s e rest hinput, he]
    exact wrCmd_eq { s with input := rest } v

end Sys2Proof.Machine

/-! What an event's operation can do (R2, R30), said once. Six operations have a meaning of their own; each of the others
either answers the host and changes nothing else, or is a write that changes configuration and interrupt fields only. What
every step keeps is proved along these eight cases. -/

namespace Sys2Proof.Machine

/-- The operations an event can select, by what they do. -/
inductive EventOp : Instr → Prop where
  | rxByte (b : Byte) : EventOp (.evRxByte b)
  | tick : EventOp .evTick
  | reset : EventOp .evReset
  | command (v : Word) : EventOp (.wrCmd v)
  | stage (v : Word) : EventOp (.wrTxData v)
  | rxData : EventOp .rdRxData
  | answer {i : Instr} (h : ∀ s : State, ∃ a, exec i s = .next (s.answer a)) : EventOp i
  | configure {i : Instr} {off : Offset} {v : Word} (hi : encode i = writeCode off v)
      (h : ∀ s : State, ∃ ctrl maxTries timeout txSeq irqPending irqEnable,
        exec i s = .next
          { s with
            ctrl := ctrl, maxTries := maxTries, timeout := timeout, txSeq := txSeq
            irqPending := irqPending, irqEnable := irqEnable }) : EventOp i

/-- The receive and command rows have no event of their own: they run under a dispatch (R161, R271). -/
theorem eventOp_of_encode {i : Instr} {e : Event} (hi : encode i = .event e) : EventOp i := by
  cases i with
  | rxIdleEsc | rxIdleStray | rxIescSof | rxIescAck | rxIescNak | rxIescOther | rxSeqEsc | rxSeqData | rxSescEsc
  | rxSescBad | rxTypeMk11 | rxTypeMk91 | rxTypeBad | rxInfoEsc | rxInfoData | rxIfescEsc | rxIfescEof | rxIfescAck
  | rxIfescSof | rxIfescBad | cmdNop | cmdEnqueue | cmdRxPop | cmdTxStageClr | cmdLinkReset | cmdCntClr
  | cmdReserved => cases hi
  | evRxByte b => exact .rxByte b
  | evTick => exact .tick
  | evReset => exact .reset
  | wrCmd v => exact .command v
  | wrTxData v => exact .stage v
  | rdRxData => exact .rxData
  | hostBusError a => cases a <;> exact .answer fun _ => ⟨_, rfl⟩
  | wrCtrl | wrMaxTries | wrTimeout | wrTxSeq | wrIrqPending | wrIrqEnable | wrIgnored =>
    exact .configure rfl fun _ => ⟨_, _, _, _, _, _, rfl⟩
  | _ => exact .answer fun _ => ⟨_, rfl⟩

end Sys2Proof.Machine

/-! The invariants (R35 to R38, R41, R42, R203, R230, R300): Reset sets them up and every step keeps them. Each operation's
lemma names the invariants that its fields touch; `{ h with … }` carries the others over. -/

namespace Sys2Proof.Machine

/-! ### The receive buffer (R35, R173) -/

theorem State.Inv.enter_empty {s : State} (h : s.Inv) {st : RxState} (hst : AsmLenOk st 0) :
    State.Inv { s with rxState := st, asm := [] } :=
  { h with
    asm_len := hst
    asm_cap := Nat.zero_le _
    asm_marker := fun _ hm => by cases hm }

theorem State.Inv.noted {s : State} (h : s.Inv) (k : BitVec 4) (hk : k.toNat ≤ 12 := by decide) :
    State.Inv { s with lastEvt := k } :=
  { h with evt_le := hk }

theorem State.Inv.enter {s : State} (h : s.Inv) {st : RxState} (hst : AsmLenOk st s.asm.length) :
    State.Inv { s with rxState := st } :=
  { h with asm_len := hst }

/-- An appended byte keeps the invariants if the state entered fits the longer buffer and a second byte is a marker. -/
theorem State.Inv.append {s : State} (h : s.Inv) {b : Byte} {st : RxState} (hst : st ≠ .idle)
    (hlen : AsmLenOk st (s.asm.length + 1)) (hmarker : s.asm.length = 1 → IsMarker b) : (s.append b st).Inv := by
  by_cases hfull : s.asm.length = s.params.rxbufMax
  · rw [s.append_full b st hfull]
    exact { (h.enter_empty (st := .idle) rfl).noted 8 with }
  · rw [s.append_room b st hfull hst]
    refine { h with asm_len := ?len, asm_cap := ?cap, asm_marker := fun m hm => ?marker }
    case len => rwa [List.length_append]
    case cap =>
      rw [List.length_append, List.length_singleton]
      exact Nat.lt_of_le_of_ne h.asm_cap hfull
    case marker =>
      rcases Nat.lt_trichotomy s.asm.length 1 with hnil | hone | hmore
      · simp [List.eq_nil_of_length_eq_zero (Nat.lt_one_iff.mp hnil)] at hm
      · rw [List.getElem?_append_right hone.le, hone] at hm
        cases hm
        exact hmarker hone
      · rw [List.getElem?_append_left hmore] at hm
        exact h.asm_marker m hm

/-! ### The send queue (R37, R38, R230) -/

/-- The queue without its head, both counters 0: what a dequeue leaves before the new head is sent. -/
theorem State.Inv.dequeue {s : State} (h : s.Inv) {f : TxFrame} {r : List TxFrame} (hq : s.txq = f :: r) :
    State.Inv { s with txq := r, tries := 0, elapsed := 0 } :=
  { h with
    txq_len := by
      have hlen := h.txq_len
      rw [hq, List.length_cons] at hlen
      exact Nat.le_of_succ_le hlen
    txq_wire := fun g hg => h.txq_wire g (by rw [hq]; exact List.mem_cons_of_mem f hg)
    idle_counters := fun _ => ⟨rfl, rfl⟩
    tries_le := Nat.zero_le _
    elapsed_le := Nat.zero_le _ }

/-- Sending a head needs the invariants only up to the counters, which it zeroes (R221). -/
theorem State.inv_startHead {s : State} (h : State.Inv { s with tries := 0, elapsed := 0 }) : s.startHead.Inv := by
  cases hq : s.txq with
  | nil => rwa [s.startHead_nil hq]
  | cons f r =>
    rw [s.startHead_cons f r hq]
    exact { h with }

theorem State.Inv.drop {s : State} (h : s.Inv) (c : BitVec 1) : (s.drop c).Inv := by
  cases hq : s.txq with
  | nil => simpa only [State.drop, hq] using h
  | cons f r =>
    have hcode : (10#4 + c.setWidth 4).toNat ≤ 12 := by revert c; decide
    rw [s.drop_cons c f r hq]
    exact State.inv_startHead { (h.dequeue hq).noted _ hcode with }

theorem State.Inv.onAck {s : State} (h : s.Inv) : s.onAck.Inv := by
  cases hq : s.txq with
  | nil =>
    rw [s.onAck_nil hq]
    exact { h with }
  | cons f r =>
    rw [s.onAck_cons f r hq]
    exact State.inv_startHead { h.dequeue hq with }

theorem State.Inv.onNak {s : State} (h : s.Inv) : s.onNak.Inv := by
  have hcounted : (s.count .nakRx).Inv := { h with }
  simp only [State.onNak]
  split
  · exact hcounted.drop 1
  · exact hcounted

/-- A retransmission happens while the tries are at most MAX_TRIES, an 8-bit number (R223). -/
theorem State.Inv.tick {s : State} (h : s.Inv) : s.tick.Inv := by
  by_cases hoff : s.ctrl.en = false ∨ s.txq = []
  · rwa [s.tick_off hoff]
  rw [not_or, Bool.not_eq_false] at hoff
  obtain ⟨hen, hne⟩ := hoff
  obtain ⟨f, r, hq⟩ := List.exists_cons_of_ne_nil hne
  have hnonempty {P : Prop} (hnil : s.txq = []) : P := absurd hnil hne
  rcases Nat.lt_or_ge s.timeout.toNat (s.elapsed.toNat + 1) with hpast | hwithin
  · rcases Nat.lt_or_ge s.maxTries.toNat s.tries.toNat with hexhausted | hleft
    · rw [s.tick_drops f r hq hen h.elapsed_le hpast hexhausted]
      exact State.inv_startHead { (h.dequeue hq).noted 10 with }
    · rw [s.tick_retransmits f r hq hen h.elapsed_le hpast hleft]
      have hmax : s.maxTries.toNat < 256 := s.maxTries.isLt
      have htries : (s.tries + 1).toNat = s.tries.toNat + 1 := BitVec.toNat_add_of_lt (by simp; omega)
      exact { h with idle_counters := hnonempty, tries_le := by simp only [htries]; omega, elapsed_le := Nat.zero_le _ }
  · rw [s.tick_counts hen hne hwithin]
    have htimeout : s.timeout.toNat < 65536 := s.timeout.isLt
    have helapsed := toNat_succ_of_le_65536 h.elapsed_le
    exact { h with idle_counters := hnonempty, elapsed_le := by simp only [helapsed]; omega }

/-- A frame put into a queue with room keeps the invariants if its wire bytes are its record's encoding. -/
theorem State.Inv.qEnqueue {s : State} (h : s.Inv) {f : TxFrame} (hroom : s.txq.length ≠ s.params.txqDepth)
    (hmarker : IsMarker f.marker)
    (hwire : ∃ p : List Byte, p.length ≤ s.params.txPayloadMax ∧ f.wire = encodeFrame f.seq f.marker p) :
    (s.qEnqueue f).Inv := by
  have hlen : (s.txq ++ [f]).length ≤ s.params.txqDepth := by
    have hle := h.txq_len
    rw [List.length_append, List.length_singleton]
    omega
  have hwires : ∀ g ∈ s.txq ++ [f], IsMarker g.marker ∧
      ∃ p : List Byte, p.length ≤ s.params.txPayloadMax ∧ g.wire = encodeFrame g.seq g.marker p := by
    intro g hg
    rcases List.mem_append.mp hg with hold | hnew
    · exact h.txq_wire g hold
    · rw [List.mem_singleton.mp hnew]
      exact ⟨hmarker, hwire⟩
  cases hq : s.txq with
  | nil =>
    rw [hq] at hlen hwires
    rw [s.qEnqueue_nil f hq]
    exact { h with
      txq_len := hlen, txq_wire := hwires, idle_counters := fun _ => ⟨rfl, rfl⟩
      tries_le := Nat.zero_le _, elapsed_le := Nat.zero_le _ }
  | cons g r =>
    rw [s.qEnqueue_cons f (by simp [hq])]
    exact { h with txq_len := hlen, txq_wire := hwires, idle_counters := fun hnil => by simp at hnil }

/-! ### The end of a frame (R36, R42, R203) -/

theorem payloadOf_length (a : List Byte) : (payloadOf a).length = a.length - 4 := by
  simp [payloadOf, crcCovered]
  omega

/-- A message that arrives behind others leaves the head; one that arrives alone finds the read index 0. -/
theorem State.Inv.rdPtr_le_append {s : State} (h : s.Inv) (m : RxMsg) :
    s.rdPtr.toNat ≤ ((s.rxq ++ [m]).head?.map (·.payload.length)).getD 0 := by
  have hptr := h.rd_ptr
  cases hq : s.rxq with
  | nil =>
    rw [hq] at hptr
    exact hptr.trans (Nat.zero_le _)
  | cons g r => rwa [hq] at hptr

theorem State.Inv.acceptNew {s : State} (h : s.Inv) {a0 a1 : Byte} {body : List Byte}
    (hasm : s.asm = a0 :: a1 :: body) (hlen : 2 ≤ body.length)
    (hcrc : crc16 (crcCovered (a0 :: a1 :: body)) = crcField (a0 :: a1 :: body)) : (s.acceptNew a0 a1 body).Inv := by
  by_cases hfull : s.rxq.length = s.params.rxqDepth
  · rw [s.acceptNew_full a0 a1 body hfull]
    exact { h.noted 9 with }
  rw [s.acceptNew_room a0 a1 body hfull]
  have hmarker : IsMarker a1 := h.asm_marker a1 (by rw [hasm]; rfl)
  have hcap : body.length + 2 ≤ s.params.rxbufMax := by
    have hle := h.asm_cap
    rwa [hasm] at hle
  refine { h with
    last_ok := fun l hl => ?last, rxq_len := ?count, rxq_msg := fun m hm => ?message, rd_ptr := h.rdPtr_le_append _ }
  case last =>
    cases hl
    exact ⟨Nat.add_le_add_right hlen 2, hcap, hmarker, hcrc⟩
  case count =>
    rw [List.length_append, List.length_singleton]
    exact Nat.lt_of_le_of_ne h.rxq_len hfull
  case message =>
    rcases List.mem_append.mp hm with hold | hnew
    · exact h.rxq_msg m hold
    · rw [List.mem_singleton.mp hnew]
      refine ⟨hmarker, ?_⟩
      have hpayload : (payloadOf (a0 :: a1 :: body)).length + 4 = body.length + 2 := by
        rw [payloadOf_length, List.length_cons, List.length_cons]
        omega
      exact hpayload.trans_le hcap

theorem State.Inv.classify {s : State} (h : s.Inv) {a0 a1 : Byte} {body : List Byte}
    (hasm : s.asm = a0 :: a1 :: body) : (s.classify a0 a1 body).Inv := by
  rcases s.classify_cases a0 a1 body with
    ⟨-, hfail⟩ | ⟨hlen, hcrc, ⟨-, haccept⟩ | ⟨l, -, -, ⟨-, hreplay⟩ | ⟨-, hconflict⟩⟩⟩
  · rw [hfail, State.integrityFail_eq]
    exact { h.noted 5 with }
  · rw [haccept]
    exact h.acceptNew hasm hlen hcrc
  · rw [hreplay, State.replay_eq]
    exact { h.noted 6 with }
  · rw [hconflict, State.conflict_eq]
    exact { h.noted 7 with }

theorem State.Inv.endOfFrame {s t : State} (h : s.Inv) (ht : s.endOfFrame = .next t) : t.Inv := by
  obtain ⟨a0, a1, body, hasm, rfl⟩ := s.endOfFrame_next t ht
  exact (h.classify hasm).enter_empty (st := .idle) rfl

/-! ### Received bytes (R161) -/

@[simp] theorem State.startHead_asm (s : State) : s.startHead.asm = s.asm := by
  simp only [State.startHead]; split <;> rfl

@[simp] theorem State.onAck_asm (s : State) : s.onAck.asm = s.asm := by
  cases hq : s.txq with
  | nil => rw [s.onAck_nil hq]
  | cons f r => rw [s.onAck_cons f r hq, State.startHead_asm]

theorem State.Inv.two_le_asm_length {s : State} (h : s.Inv)
    (hst : s.rxState = .infoFrame ∨ s.rxState = .infoFrameEscape) : 2 ≤ s.asm.length := by
  have hlen := h.asm_len
  rcases hst with hst | hst <;> rwa [hst] at hlen

/-- The row that state and byte select keeps the invariants: in each state the buffer has the length its rows ask for. -/
theorem State.Inv.rxRow {s t : State} {b : Byte} (h : s.Inv)
    (ht : exec (rxRow s.markers s.rxState b).toInstr s = .next t) : t.Inv := by
  cases hst : s.rxState with
  | idle =>
    have hlen := h.asm_len
    rw [hst] at ht hlen
    rw [toInstr_rxRow_idle] at ht
    split_ifs at ht <;> cases ht
    · exact h.enter hlen
    · exact { (h.enter_empty (st := .idle) rfl).noted 1 with }
  | idleEscape =>
    rw [hst, toInstr_rxRow_idleEscape] at ht
    split_ifs at ht <;> cases ht
    · exact h.enter_empty (st := .seqNo) rfl
    · exact h.onAck.enter_empty (st := .idle) rfl
    · exact h.onNak.enter_empty (st := .idle) rfl
    · exact h.enter_empty (st := .idle) rfl
  | seqNo =>
    have hnil := h.asm_eq_nil (.inl hst)
    rw [hst, toInstr_rxRow_seqNo] at ht
    split_ifs at ht <;> cases ht
    · exact h.enter (by rw [hnil]; rfl)
    · exact h.append (by decide) (by rw [hnil]; rfl) (by simp [hnil])
  | seqNoEscape =>
    have hnil := h.asm_eq_nil (.inr hst)
    rw [hst, toInstr_rxRow_seqNoEscape] at ht
    split_ifs at ht
    · cases ht
      exact h.append (by decide) (by rw [hnil]; rfl) (by simp [hnil])
    · cases (exec_rxSescBad b s).symm.trans ht
      exact { (h.enter (st := .seqNo) (by rw [hnil]; rfl)).noted 2 with }
  | type =>
    have htwo : 2 ≤ s.asm.length + 1 := by rw [h.asm_length_of_type hst]
    rw [hst, toInstr_rxRow_type] at ht
    split_ifs at ht
    · cases ht
      exact h.append (b := Wire.mkE2T) (by decide) htwo fun _ => .inl rfl
    · cases ht
      exact h.append (b := Wire.mkT2E) (by decide) htwo fun _ => .inr rfl
    · cases (exec_rxTypeBad b s).symm.trans ht
      exact { (h.enter_empty (st := .idle) rfl).noted 3 with }
  | infoFrame =>
    have htwo := h.two_le_asm_length (.inl hst)
    rw [hst, toInstr_rxRow_infoFrame] at ht
    split_ifs at ht <;> cases ht
    · exact h.enter htwo
    · exact h.append (by decide) (Nat.le_succ_of_le htwo) (by omega)
  | infoFrameEscape =>
    have htwo := h.two_le_asm_length (.inr hst)
    rw [hst, toInstr_rxRow_infoFrameEscape] at ht
    split_ifs at ht
    · cases ht
      exact h.append (by decide) (Nat.le_succ_of_le htwo) (by omega)
    · exact h.endOfFrame ht
    · cases ht
      exact h.onAck.enter (by rwa [State.onAck_asm])
    · cases (exec_rxIfescSof s).symm.trans ht
      exact { (h.enter_empty (st := .seqNo) rfl).noted 4 with }
    · cases (exec_rxIfescBad b s).symm.trans ht
      exact { (h.enter (st := .infoFrame) htwo).noted 2 with }

theorem State.Inv.evRxByte {s t : State} {b : Byte} (h : s.Inv) (ht : exec (.evRxByte b) s = .next t) : t.Inv := by
  cases hen : s.ctrl.en with
  | false =>
    rw [evRxByte_disabled s b hen] at ht
    cases ht
    exact h
  | true =>
    rw [evRxByte_enabled s b hen] at ht
    exact h.rxRow ht

/-! ### Commands and accesses of the host (R260 to R279) -/

theorem State.Inv.reject {s : State} (h : s.Inv) : s.reject.Inv := { h.noted 12 with }

theorem State.stagedFrame_isMarker (s : State) : IsMarker s.stagedFrame.marker := by
  show IsMarker (if s.ctrl.txdir = true then Wire.mkT2E else Wire.mkE2T)
  split
  · exact .inr rfl
  · exact .inl rfl

/-- The next message is read from its first byte (R274). -/
theorem State.Inv.rxPop {s : State} (h : s.Inv) {m : RxMsg} {r : List RxMsg} (hq : s.rxq = m :: r) :
    State.Inv { s with rxq := r, rdPtr := 0 } :=
  { h with
    rxq_len := by
      have hlen := h.rxq_len
      rw [hq, List.length_cons] at hlen
      exact Nat.le_of_succ_le hlen
    rxq_msg := fun g hg => h.rxq_msg g (by rw [hq]; exact List.mem_cons_of_mem m hg)
    rd_ptr := Nat.zero_le _ }

theorem State.Inv.linkReset {s : State} (h : s.Inv) :
    State.Inv
      { s with
        rxState := .idle, asm := [], last := none
        txq := [], tries := 0, elapsed := 0, txSeq := 1
        stage := [], rxq := [], rdPtr := 0 } :=
  { h.enter_empty (st := .idle) rfl with
    last_ok := fun _ hl => by cases hl
    txq_len := Nat.zero_le _
    txq_wire := fun _ hf => by cases hf
    idle_counters := fun _ => ⟨rfl, rfl⟩
    tries_le := Nat.zero_le _
    elapsed_le := Nat.zero_le _
    stage_len := Nat.zero_le _
    rxq_len := Nat.zero_le _
    rxq_msg := fun _ hm => by cases hm
    rd_ptr := Nat.zero_le _ }

theorem State.Inv.cmdRow {s t : State} {row : CmdRow} (h : s.Inv) (ht : exec row.toInstr s = .next t) : t.Inv := by
  cases row with
  | nop => cases ht; exact h
  | enqueue =>
    by_cases hrefused : s.ctrl.en = false ∨ s.txq.length = s.params.txqDepth
    · cases (exec_cmdEnqueue_refused s hrefused).symm.trans ht
      exact h.reject
    · rw [not_or, Bool.not_eq_false] at hrefused
      obtain ⟨hen, hroom⟩ := hrefused
      cases (exec_cmdEnqueue_accepted s hen hroom).symm.trans ht
      have hstaged : State.Inv { s with txSeq := s.txSeq + 1, stage := [] } := { h with stage_len := Nat.zero_le _ }
      exact hstaged.qEnqueue hroom s.stagedFrame_isMarker ⟨s.stage, h.stage_len, rfl⟩
  | rxPop =>
    cases hq : s.rxq with
    | nil =>
      cases (exec_cmdRxPop_nil s hq).symm.trans ht
      exact h.reject
    | cons m r =>
      cases (exec_cmdRxPop_cons s m r hq).symm.trans ht
      exact h.rxPop hq
  | txStageClr => cases ht; exact { h with stage_len := Nat.zero_le _ }
  | linkReset => cases ht; exact h.linkReset
  | cntClr => cases ht; exact { h with evt_le := Nat.zero_le _ }
  | reserved v => cases ht; exact h.reject

/-- The byte was left in the head message, whose frame fitted a buffer of fewer than 2^16 bytes: the index does not wrap. -/
theorem State.Inv.rdPtr_succ_le {s : State} (h : s.Inv) {b : Byte} (hb : s.rxDataByte = some b) :
    (s.rdPtr + 1).toNat ≤ (s.rxq.head?.map (·.payload.length)).getD 0 := by
  cases hq : s.rxq with
  | nil =>
    rw [s.rxDataByte_nil hq] at hb
    cases hb
  | cons m r =>
    rw [s.rxDataByte_cons m r hq] at hb
    obtain ⟨hleft, -⟩ := List.getElem?_eq_some_iff.mp hb
    obtain ⟨-, hpayload⟩ := h.rxq_msg m (by rw [hq]; exact List.mem_cons_self)
    have hmax : s.params.rxbufMax ≤ 65535 := h.params_legal.1.2
    have hsucc : (s.rdPtr + 1).toNat = s.rdPtr.toNat + 1 := BitVec.toNat_add_of_lt (by simp; omega)
    rw [hsucc]
    exact hleft

theorem State.Inv.rdRxData {s t : State} (h : s.Inv) (ht : exec .rdRxData s = .next t) : t.Inv := by
  cases hb : s.rxDataByte with
  | none =>
    cases (readAnswers_rdRxData_none s hb).symm.trans ht
    exact { h with }
  | some b =>
    cases (exec_rdRxData_some s b hb).symm.trans ht
    exact { h with rd_ptr := h.rdPtr_succ_le hb }

theorem State.Inv.wrTxData {s t : State} {v : Word} (h : s.Inv) (ht : exec (.wrTxData v) s = .next t) : t.Inv := by
  by_cases hfull : s.stage.length = s.params.txPayloadMax
  · cases (exec_wrTxData_full v s hfull).symm.trans ht
    exact h.reject
  · cases (exec_wrTxData_room v s hfull).symm.trans ht
    refine { h with stage_len := ?_ }
    rw [List.length_append, List.length_singleton]
    exact Nat.lt_of_le_of_ne h.stage_len hfull

/-! ### Reset (R340) -/

theorem exec_evReset (s : State) :
    exec .evReset s =
      .next { State.resetWith s.params with txOut := s.txOut, busOut := s.busOut, input := s.input } := rfl

theorem State.inv_resetWith {p : Params} (h : p.Legal) : (State.resetWith p).Inv where
  params_legal := h
  asm_len := rfl
  asm_cap := Nat.zero_le _
  asm_marker := fun _ hm => by cases hm
  last_ok := fun _ hl => by cases hl
  txq_len := Nat.zero_le _
  txq_wire := fun _ hf => by cases hf
  idle_counters := fun _ => ⟨rfl, rfl⟩
  tries_le := Nat.zero_le _
  elapsed_le := Nat.zero_le _
  stage_len := Nat.zero_le _
  rxq_len := Nat.zero_le _
  rxq_msg := fun _ hm => by cases hm
  rd_ptr := Nat.zero_le _
  evt_le := Nat.zero_le _

/-- Settles O46. -/
theorem resetEventRestoresEverything : Obligations.ResetEventRestoresEverything :=
  exec_evReset

/-- Settles O48. -/
theorem resetStateKeepsInvariants : Obligations.ResetStateKeepsInvariants :=
  fun _ _ hlegal => { State.inv_resetWith hlegal with }

/-! ### A step -/

theorem State.Inv.exec_event {s t : State} {i : Instr} {e : Event} (h : s.Inv) (hi : encode i = .event e)
    (ht : exec i s = .next t) : t.Inv := by
  cases eventOp_of_encode hi with
  | rxByte b => exact h.evRxByte ht
  | tick => cases ht; exact h.tick
  | reset =>
    cases (exec_evReset s).symm.trans ht
    exact { State.inv_resetWith h.params_legal with }
  | command v =>
    rw [wrCmd_eq] at ht
    exact h.cmdRow ht
  | stage v => exact h.wrTxData ht
  | rxData => exact h.rdRxData ht
  | answer hanswer =>
    obtain ⟨a, ha⟩ := hanswer s
    cases ha.symm.trans ht
    exact { h with }
  | configure _ hwrite =>
    obtain ⟨_, _, _, _, _, _, hw⟩ := hwrite s
    cases hw.symm.trans ht
    exact { h with }

/-- Settles O49, by the operation that the event selects. -/
theorem stepKeepsInvariants : Obligations.StepKeepsInvariants := by
  intro s t h ht
  rcases step_cases s with ⟨-, hwait⟩ | ⟨e, rest, -, hrun⟩
  · rw [hwait] at ht
    cases ht
    exact h
  · rw [hrun] at ht
    have htaken : State.Inv { s with input := rest } := { h with }
    exact htaken.exec_event (encode_decodeEvent e) ht

end Sys2Proof.Machine

/-! The machine as a whole (R31, R39, R89, R230, R302): which step could stop, that a step only appends to its outputs, and
that a new head is sent in the event which makes it the head. The last two are one relation between the states before and
after, `State.Extends`, proved of the shared operations first and of every operation an event can select then. -/

namespace Sys2Proof.Machine

/-! ### Completion (R302) -/

theorem exec_rxIfescEof_short {s : State} (h : s.asm.length < 2) : exec .rxIfescEof s = .fault .asmTooShort := by
  show s.endOfFrame = _
  match hs : s.asm with
  | [] | [_] => simp only [State.endOfFrame, hs]
  | _ :: _ :: _ => simp [hs] at h

/-- The only stop is the end marker's check on a buffer without its two header bytes (log entry 7). -/
theorem exec_completes_or_faults (i : Instr) (s : State) :
    (∃ t, exec i s = .next t) ∨
      (s.asm.length < 2 ∧ exec i s = .fault .asmTooShort ∧ (i = .rxIfescEof ∨ i = .evRxByte 0xFF#8)) := by
  cases i with
  | rxIfescEof =>
    rcases Nat.lt_or_ge s.asm.length 2 with hshort | hlen
    · exact .inr ⟨hshort, exec_rxIfescEof_short hshort, .inl rfl⟩
    · exact .inl (exec_rxIfescEof_completes hlen)
  | evRxByte b =>
    cases hen : s.ctrl.en with
    | false => exact .inl ⟨s, evRxByte_disabled s b hen⟩
    | true =>
      rw [evRxByte_enabled s b hen]
      by_cases hcheck : rxRow s.markers s.rxState b = .ifescEof ∧ s.asm.length < 2
      · obtain ⟨hrow, hshort⟩ := hcheck
        rw [hrow, eq_eof_of_rxRow_eq_ifescEof hrow]
        exact .inr ⟨hshort, exec_rxIfescEof_short hshort, .inr rfl⟩
      · exact .inl (exec_rxRow_completes _ s fun hrow => not_lt.mp (not_and.mp hcheck hrow))
  | wrCmd v =>
    rw [wrCmd_eq]
    exact .inl (exec_cmdRow_completes _ s)
  | cmdEnqueue => exact .inl (exec_cmdRow_completes .enqueue s)
  | cmdRxPop => exact .inl (exec_cmdRow_completes .rxPop s)
  | hostBusError a => cases a <;> exact .inl ⟨_, rfl⟩
  | rdRxData =>
    cases hb : s.rxDataByte with
    | none => exact .inl ⟨_, readAnswers_rdRxData_none s hb⟩
    | some b => exact .inl ⟨_, exec_rdRxData_some s b hb⟩
  | wrTxData v =>
    by_cases hfull : s.stage.length = s.params.txPayloadMax
    · exact .inl ⟨_, exec_wrTxData_full v s hfull⟩
    · exact .inl ⟨_, exec_wrTxData_room v s hfull⟩
  | _ => exact .inl ⟨_, rfl⟩

/-- No event selects the end marker's row but through a received byte, and there R35 gives the buffer its length. -/
theorem State.Inv.exec_decodeEvent_completes {s : State} (h : s.Inv) (e : Event) :
    ∃ t, exec (decodeEvent e) s = .next t := by
  rcases exec_completes_or_faults (decodeEvent e) s with hnext | ⟨-, -, hi | hi⟩
  · exact hnext
  · have hcode := encode_decodeEvent e
    rw [hi] at hcode
    cases hcode
  · rw [hi]
    exact evRxByte_completes s 0xFF#8 fun hst => h.two_le_asm_length (.inr hst)

/-- Settles O50. -/
theorem stepNeverStops : Obligations.StepNeverStops := by
  refine ⟨fun s h => ?_, exec_completes_or_faults, fun s => exec_rxIfescEof_short⟩
  rcases step_cases s with ⟨-, hwait⟩ | ⟨e, rest, -, hrun⟩
  · exact ⟨s, hwait⟩
  · have htaken : State.Inv { s with input := rest } := { h with }
    rw [hrun]
    exact htaken.exec_decodeEvent_completes e

/-! ### Outputs grow, and a new head is sent (R31, R39, R230): the shared operations -/

/-- A head that `s` did not have is the last thing `t` has sent, its counters are 0, and it moved up or came alone. -/
def State.SendsNewHead (s t : State) : Prop :=
  ∀ g r, t.txq = g :: r → s.txq.head? ≠ some g →
    t.txOut = s.txOut ++ g.wire ∧ t.tries = 0 ∧ t.elapsed = 0 ∧ ((s.txq = [] ∧ r = []) ∨ s.txq.tail = g :: r)

/-- `t` has what `s` has sent and answered, and perhaps more; its parameters and its events to come are those of `s`. -/
structure State.Extends (s t : State) : Prop where
  params : t.params = s.params
  input : t.input = s.input
  txOut : ∃ bs, t.txOut = s.txOut ++ bs
  busOut : ∃ ans, t.busOut = s.busOut ++ ans
  newHead : s.SendsNewHead t

theorem State.SendsNewHead.of_head {s t : State} (h : ∀ g r, t.txq = g :: r → s.txq.head? = some g) :
    s.SendsNewHead t :=
  fun g r hq hnew => absurd (h g r hq) hnew

theorem State.SendsNewHead.of_txq {s t : State} (h : t.txq = s.txq) : s.SendsNewHead t :=
  .of_head fun g r hq => by rw [← h, hq]; rfl

theorem State.SendsNewHead.of_nil {s t : State} (h : t.txq = []) : s.SendsNewHead t :=
  .of_head fun g r hq => by rw [h] at hq; cases hq

/-- What keeps the queue and sends the bytes `bs`, if any. -/
theorem State.Extends.of_emit {s t : State} (bs : List Byte) (hparams : t.params = s.params := by rfl)
    (hinput : t.input = s.input := by rfl) (hsent : t.txOut = s.txOut ++ bs := by rfl)
    (hbus : t.busOut = s.busOut := by rfl) (hq : t.txq = s.txq := by rfl) : s.Extends t :=
  ⟨hparams, hinput, ⟨bs, hsent⟩, ⟨[], by rw [hbus, List.append_nil]⟩, .of_txq hq⟩

/-- What keeps the queue and sends nothing. -/
theorem State.Extends.of_silent {s t : State} (hparams : t.params = s.params := by rfl)
    (hinput : t.input = s.input := by rfl) (hsent : t.txOut = s.txOut := by rfl)
    (hbus : t.busOut = s.busOut := by rfl) (hq : t.txq = s.txq := by rfl) : s.Extends t :=
  .of_emit [] hparams hinput (by rw [hsent, List.append_nil]) hbus hq

/-- What empties the queue and sends nothing. -/
theorem State.Extends.of_idle {s t : State} (hparams : t.params = s.params := by rfl)
    (hinput : t.input = s.input := by rfl) (hsent : t.txOut = s.txOut := by rfl)
    (hbus : t.busOut = s.busOut := by rfl) (hq : t.txq = [] := by rfl) : s.Extends t :=
  ⟨hparams, hinput, ⟨[], by rw [hsent, List.append_nil]⟩, ⟨[], by rw [hbus, List.append_nil]⟩, .of_nil hq⟩

theorem State.answer_extends (s : State) (a : BusAnswer) : s.Extends (s.answer a) :=
  ⟨rfl, rfl, ⟨[], (List.append_nil _).symm⟩, ⟨[a], rfl⟩, .of_txq rfl⟩

theorem State.append_extends (s : State) (b : Byte) (st : RxState) : s.Extends (s.append b st) := by
  by_cases hfull : s.asm.length = s.params.rxbufMax
  · rw [s.append_full b st hfull]
    exact .of_emit nakSeq
  · rw [State.append, if_neg hfull]
    exact .of_silent

/-- The start of a head that moved up or came alone, whatever else was changed before it. -/
theorem State.startHead_extends {s u : State}
    (hmove : (s.txq = [] ∧ u.txq.tail = []) ∨ s.txq.tail = u.txq) (hparams : u.params = s.params := by rfl)
    (hinput : u.input = s.input := by rfl) (hsent : u.txOut = s.txOut := by rfl)
    (hbus : u.busOut = s.busOut := by rfl) : s.Extends u.startHead := by
  cases hq : u.txq with
  | nil =>
    rw [u.startHead_nil hq]
    exact .of_idle hparams hinput hsent hbus hq
  | cons f r =>
    rw [u.startHead_cons f r hq]
    refine ⟨hparams, hinput, ⟨f.wire, by rw [hsent]⟩, ⟨[], by rw [hbus, List.append_nil]⟩, fun g r' hg _ => ?_⟩
    rw [hq] at hmove hg
    cases hg
    exact ⟨by rw [hsent], rfl, rfl, hmove⟩

theorem State.qEnqueue_extends {s u : State} (f : TxFrame) (hq : u.txq = s.txq := by rfl)
    (hparams : u.params = s.params := by rfl) (hinput : u.input = s.input := by rfl)
    (hsent : u.txOut = s.txOut := by rfl) (hbus : u.busOut = s.busOut := by rfl) : s.Extends (u.qEnqueue f) := by
  unfold State.qEnqueue
  split
  next hnil => exact State.startHead_extends (.inl ⟨hq ▸ hnil, by rw [hnil]; rfl⟩) hparams hinput hsent hbus
  next hne =>
    refine ⟨hparams, hinput, ⟨[], by rw [hsent, List.append_nil]⟩, ⟨[], by rw [hbus, List.append_nil]⟩,
      .of_head fun g r hg => ?_⟩
    obtain ⟨f', r', hcons⟩ := List.exists_cons_of_ne_nil hne
    rw [hcons] at hg
    cases hg
    rw [← hq, hcons, List.head?_cons]

theorem State.drop_extends {s u : State} (c : BitVec 1) (hq : u.txq = s.txq := by rfl)
    (hparams : u.params = s.params := by rfl) (hinput : u.input = s.input := by rfl)
    (hsent : u.txOut = s.txOut := by rfl) (hbus : u.busOut = s.busOut := by rfl) : s.Extends (u.drop c) := by
  cases hu : u.txq with
  | nil =>
    simp only [State.drop, hu]
    exact .of_silent hparams hinput hsent hbus hq
  | cons f r =>
    rw [u.drop_cons c f r hu]
    exact State.startHead_extends (.inr (by rw [← hq, hu]; rfl)) hparams hinput hsent hbus

theorem State.onAck_extends (s : State) : s.Extends s.onAck := by
  cases hq : s.txq with
  | nil =>
    rw [s.onAck_nil hq]
    exact .of_silent
  | cons f r =>
    rw [s.onAck_cons f r hq]
    exact State.startHead_extends (.inr (by rw [hq]; rfl))

theorem State.onNak_extends (s : State) : s.Extends s.onNak := by
  simp only [State.onNak]
  split
  · exact State.drop_extends 1
  · exact .of_silent

theorem State.tick_extends (s : State) : s.Extends s.tick := by
  by_cases hoff : s.ctrl.en = false ∨ s.txq = []
  · rw [s.tick_off hoff]
    exact .of_silent
  rw [not_or, Bool.not_eq_false] at hoff
  obtain ⟨hen, hne⟩ := hoff
  obtain ⟨f, r, hq⟩ := List.exists_cons_of_ne_nil hne
  rcases Nat.lt_or_ge s.timeout.toNat (s.elapsed + 1).toNat with hpast | hwithin
  · rw [s.tick_past hen hne hpast]
    rcases State.resendAttempt_cons { s with elapsed := s.elapsed + 1 } f r hq with ⟨-, hdrop⟩ | ⟨-, hresend⟩
    · rw [hdrop]
      exact State.drop_extends 0
    · rw [hresend]
      exact .of_emit f.wire
  · rw [s.tick_below hen hne hwithin]
    exact .of_silent

theorem State.classify_extends (s : State) (a0 a1 : Byte) (body : List Byte) : s.Extends (s.classify a0 a1 body) := by
  rcases s.classify_cases a0 a1 body with
    ⟨-, hfail⟩ | ⟨-, -, ⟨-, haccept⟩ | ⟨l, -, -, ⟨-, hreplay⟩ | ⟨-, hconflict⟩⟩⟩
  · rw [hfail, State.integrityFail_eq]
    exact .of_emit nakSeq
  · rw [haccept]
    by_cases hfull : s.rxq.length = s.params.rxqDepth
    · rw [s.acceptNew_full a0 a1 body hfull]
      exact .of_emit nakSeq
    · rw [s.acceptNew_room a0 a1 body hfull]
      exact .of_emit ackSeq
  · rw [hreplay, State.replay_eq]
    exact .of_emit ackSeq
  · rw [hconflict, State.conflict_eq]
    exact .of_emit nakSeq

/-! ### Outputs grow, and a new head is sent: the operations -/

theorem exec_rxRow_extends {row : RxRow} {s t : State} (h : exec row.toInstr s = .next t) : s.Extends t := by
  cases row with
  | iescAck | ifescAck => cases h; exact { s.onAck_extends with }
  | iescNak => cases h; exact { s.onNak_extends with }
  | seqData | sescEsc | typeMk11 | typeMk91 | infoData | ifescEsc => cases h; exact s.append_extends _ _
  | typeBad b => cases (exec_rxTypeBad b s).symm.trans h; exact .of_emit nakSeq
  | sescBad b => cases (exec_rxSescBad b s).symm.trans h; exact .of_silent
  | ifescSof => cases (exec_rxIfescSof s).symm.trans h; exact .of_silent
  | ifescBad b => cases (exec_rxIfescBad b s).symm.trans h; exact .of_silent
  | ifescEof =>
    obtain ⟨a0, a1, body, -, rfl⟩ := s.endOfFrame_next t h
    exact { s.classify_extends a0 a1 body with }
  | _ => cases h; exact .of_silent

theorem evRxByte_extends {b : Byte} {s t : State} (h : exec (.evRxByte b) s = .next t) : s.Extends t := by
  cases hen : s.ctrl.en with
  | false =>
    cases (evRxByte_disabled s b hen).symm.trans h
    exact .of_silent
  | true =>
    rw [evRxByte_enabled s b hen] at h
    exact exec_rxRow_extends h

theorem exec_cmdRow_extends {row : CmdRow} {s t : State} (h : exec row.toInstr s = .next t) : s.Extends t := by
  cases row with
  | enqueue =>
    by_cases hrefused : s.ctrl.en = false ∨ s.txq.length = s.params.txqDepth
    · cases (exec_cmdEnqueue_refused s hrefused).symm.trans h
      exact .of_silent
    · rw [not_or, Bool.not_eq_false] at hrefused
      obtain ⟨hen, hroom⟩ := hrefused
      cases (exec_cmdEnqueue_accepted s hen hroom).symm.trans h
      exact State.qEnqueue_extends s.stagedFrame
  | rxPop =>
    cases hq : s.rxq with
    | nil => cases (exec_cmdRxPop_nil s hq).symm.trans h; exact .of_silent
    | cons m r => cases (exec_cmdRxPop_cons s m r hq).symm.trans h; exact .of_silent
  | linkReset => cases h; exact .of_idle
  | _ => cases h; exact .of_silent

theorem exec_event_extends {i : Instr} {e : Event} {s t : State} (hi : encode i = .event e)
    (h : exec i s = .next t) : s.Extends t := by
  cases eventOp_of_encode hi with
  | rxByte b => exact evRxByte_extends h
  | tick => cases h; exact s.tick_extends
  | reset => cases (exec_evReset s).symm.trans h; exact .of_idle
  | command v =>
    rw [wrCmd_eq] at h
    exact exec_cmdRow_extends h
  | stage v =>
    by_cases hfull : s.stage.length = s.params.txPayloadMax
    · cases (exec_wrTxData_full v s hfull).symm.trans h; exact .of_silent
    · cases (exec_wrTxData_room v s hfull).symm.trans h; exact .of_silent
  | rxData =>
    cases hb : s.rxDataByte with
    | none => cases (readAnswers_rdRxData_none s hb).symm.trans h; exact s.answer_extends _
    | some b => cases (exec_rdRxData_some s b hb).symm.trans h; exact { s.answer_extends _ with }
  | answer hanswer =>
    obtain ⟨a, ha⟩ := hanswer s
    cases ha.symm.trans h
    exact s.answer_extends a
  | configure _ hwrite =>
    obtain ⟨_, _, _, _, _, _, hw⟩ := hwrite s
    cases hw.symm.trans h
    exact .of_silent

/-- A step takes its event, and what it does then extends the state that has taken it. -/
theorem step_extends {s t : State} (h : step s = .next t) : State.Extends { s with input := s.input.tail } t := by
  rcases step_cases s with ⟨hnone, hwait⟩ | ⟨e, rest, hinput, hrun⟩
  · cases hwait.symm.trans h
    exact .of_silent rfl (by rw [hnone]; rfl)
  · rw [hrun] at h
    rw [hinput]
    exact exec_event_extends (encode_decodeEvent e) h

/-- Settles O51. -/
theorem stepOnlyAppendsToOutputs : Obligations.StepOnlyAppendsToOutputs := by
  intro s t h
  obtain ⟨hparams, hinput, hsent, hanswered, -⟩ := step_extends h
  exact ⟨hsent, hanswered, hparams, hinput⟩

/-- Settles O54. -/
theorem newHeadIsSentInSameEvent : Obligations.NewHeadIsSentInSameEvent :=
  fun _ _ g r h => (step_extends h).newHead g r

end Sys2Proof.Machine

/-! The reads of the register window (R46 to R63, R83, R260): what each register's word is as a number, what a read does
besides answering it, and which offsets are reserved. A read row answers its register's view by definition, so each of these
statements is about the word that the view is. -/

namespace Sys2Proof.Machine

theorem ReadAnswers.congr {row : Instr} {s : State} {v w : Word} (h : ReadAnswers row s v) (hword : v = w) :
    ReadAnswers row s w :=
  hword ▸ h

/-! ### Words as numbers -/

theorem toNat_append_eq_add {v w : Nat} (hi : BitVec v) (lo : BitVec w) :
    (hi ++ lo).toNat = 2 ^ w * hi.toNat + lo.toNat := by
  rw [BitVec.toNat_append, ← Nat.shiftLeft_add_eq_or_of_lt lo.isLt, Nat.shiftLeft_eq, Nat.mul_comm]

/-- A word of two halves. -/
theorem append_halves_eq (hi lo : BitVec 16) : hi ++ lo = BitVec.ofNat 32 (65536 * hi.toNat + lo.toNat) := by
  have hnum : (hi ++ lo).toNat = 65536 * hi.toNat + lo.toNat := toNat_append_eq_add hi lo
  rw [← hnum, BitVec.ofNat_toNat, BitVec.setWidth_eq]

/-- A word of a half above two bytes. -/
theorem append_half_bytes_eq (hi : BitVec 16) (mid lo : Byte) :
    hi ++ mid ++ lo = BitVec.ofNat 32 (65536 * hi.toNat + 256 * mid.toNat + lo.toNat) := by
  have hnum : (hi ++ mid ++ lo).toNat = 65536 * hi.toNat + 256 * mid.toNat + lo.toNat := by
    rw [toNat_append_eq_add, toNat_append_eq_add]
    omega
  rw [← hnum, BitVec.ofNat_toNat, BitVec.setWidth_eq]

theorem toNat_ofNat_16 {n : Nat} (h : n ≤ 65535) : (BitVec.ofNat 16 n).toNat = n :=
  (BitVec.toNat_ofNat n _).trans (Nat.mod_eq_of_lt (by omega))

theorem toNat_ofNat_8 {n : Nat} (h : n ≤ 255) : (BitVec.ofNat 8 n).toNat = n :=
  (BitVec.toNat_ofNat n _).trans (Nat.mod_eq_of_lt (by omega))

/-! ### The registers' views (R47 to R62) -/

theorem State.ctrlWord_eq (s : State) :
    s.ctrlWord =
      BitVec.ofNat 32
        (s.ctrl.en.toNat + 2 * s.ctrl.txdir.toNat + 4 * s.ctrl.acc11.toNat + 8 * s.ctrl.acc91.toNat) := by
  rw [State.ctrlWord]
  generalize s.ctrl = c
  obtain ⟨en, txdir, acc11, acc91⟩ := c
  revert en txdir acc11 acc91
  decide

theorem State.lastAccWord_some (s : State) {l : LastFrame} (h : s.last = some l) (hlen : l.bytes.length ≤ 65535) :
    s.lastAccWord = BitVec.ofNat 32 (l.seq.toNat + 256 * l.marker.toNat + 65536 * l.bytes.length) := by
  have hbytes : l.body.length + 2 = l.bytes.length := rfl
  simp only [State.lastAccWord, h]
  rw [append_half_bytes_eq, hbytes, toNat_ofNat_16 hlen]
  congr 1
  omega

theorem State.rxInfoWord_cons (s : State) {m : RxMsg} {r : List RxMsg} (h : s.rxq = m :: r)
    (hlen : m.payload.length ≤ 65535) :
    s.rxInfoWord = BitVec.ofNat 32 (m.seq.toNat + 256 * m.marker.toNat + 65536 * m.payload.length) := by
  simp only [State.rxInfoWord, h]
  rw [append_half_bytes_eq, toNat_ofNat_16 hlen]
  congr 1
  omega

/-- A length shown in the lower half of its register. -/
theorem lengthWord_eq {n : Nat} (h : n ≤ 65535) : 0#16 ++ BitVec.ofNat 16 n = BitVec.ofNat 32 n := by
  rw [append_halves_eq, toNat_ofNat_16 h]
  simp

theorem State.cap0Word_eq {s : State} (h : s.params.Legal) :
    s.cap0Word = BitVec.ofNat 32 (65536 * s.params.txPayloadMax + s.params.rxbufMax) := by
  obtain ⟨⟨-, hrxbuf⟩, ⟨-, hpayload⟩, -⟩ := h
  rw [State.cap0Word, append_halves_eq, toNat_ofNat_16 (by omega), toNat_ofNat_16 hrxbuf]

theorem State.cap1Word_eq {s : State} (h : s.params.Legal) :
    s.cap1Word = BitVec.ofNat 32 (256 * s.params.rxqDepth + s.params.txqDepth) := by
  obtain ⟨-, -, ⟨-, htxq⟩, ⟨-, hrxq⟩⟩ := h
  rw [State.cap1Word, append_half_bytes_eq, toNat_ofNat_8 hrxq, toNat_ofNat_8 htxq]
  simp

theorem State.dropInfoWord_eq (s : State) :
    s.dropInfoWord =
      BitVec.ofNat 32
        (65536 * s.dropInfo.cause.toNat + 256 * s.dropInfo.marker.toNat + s.dropInfo.seq.toNat) := by
  have hcause : (0#15 ++ s.dropInfo.cause).toNat = s.dropInfo.cause.toNat := by
    rw [toNat_append_eq_add]
    simp
  rw [← hcause]
  exact append_half_bytes_eq (0#15 ++ s.dropInfo.cause) s.dropInfo.marker s.dropInfo.seq

/-- Settles O39. -/
theorem fieldReadsAnswerTheField : Obligations.FieldReadsAnswerTheField := by
  intro s
  simp only [← s.ctrlWord_eq, BitVec.ofNat_toNat]
  exact ⟨rfl, rfl, rfl, rfl, rfl, rfl, rfl, rfl, rfl⟩

/-- Settles O41: the row answers the view, and the view is the number. -/
theorem compositeReadsShowTheirFields : Obligations.CompositeReadsShowTheirFields := by
  intro s
  exact ⟨fun h => .congr (v := s.lastAccWord) rfl (by rw [State.lastAccWord, h]),
    fun l h hlen => .congr rfl (s.lastAccWord_some h hlen),
    fun h => .congr (v := s.rxInfoWord) rfl (by rw [State.rxInfoWord, h]),
    fun m r h hlen => .congr rfl (s.rxInfoWord_cons h hlen),
    fun h => .congr rfl (lengthWord_eq h),
    fun h => .congr rfl (lengthWord_eq h),
    fun h => ⟨.congr rfl (State.cap0Word_eq h), .congr rfl (State.cap1Word_eq h)⟩,
    .congr rfl (append_halves_eq _ _),
    .congr rfl (append_half_bytes_eq _ _ _),
    .congr rfl s.dropInfoWord_eq⟩

/-- Settles O43. -/
theorem countersSaturateAndReadBack : Obligations.CountersSaturateAndReadBack := by
  refine ⟨fun c i j => ?_, fun s => ?_⟩
  · split
    next hsame =>
      subst hsame
      rw [c.get_bump_same, satSucc_toNat]
    next hother => rw [c.get_bump_other i j hother]
  · exact ⟨rfl, rfl, rfl, rfl, rfl, rfl, rfl, rfl, rfl, rfl, rfl, rfl, rfl, rfl, rfl, rfl⟩

/-! ### Reserved offsets and undefined accesses (R63, R83, R261) -/

/-- The three reserved ranges are all of the window that has no named register. -/
theorem readRow_reserved {off : Offset} (halign : off.toNat % 4 = 0)
    (hrange : 0x58 ≤ off.toNat ∧ off.toNat ≤ 0x7C ∨ 0xC0 ≤ off.toNat) :
    readRow off = .rdReserved058 off ∨ readRow off = .rdReserved060 off ∨ readRow off = .rdReserved0C0 off := by
  revert off
  decide

/-- Settles O44. -/
theorem reservedSpaceReadsZeroAndIgnoresWrites : Obligations.ReservedSpaceReadsZeroAndIgnoresWrites := by
  intro s off v
  refine ⟨⟨rfl, rfl, rfl, rfl, rfl⟩, exec_wrIgnored off v s, fun halign => ⟨fun hrange => ?reads, fun hoff => ?writes⟩⟩
  case reads =>
    rw [decodeEvent, decodeHost_aligned_read halign]
    rcases readRow_reserved halign hrange with hrow | hrow | hrow <;> rw [hrow] <;> rfl
  case writes => rw [decodeEvent, decodeHost_aligned_write v halign, writeRow_ignored v hoff]

/-- Settles O45. -/
theorem undefinedAccessIsBusError : Obligations.UndefinedAccessIsBusError := by
  intro s off n v
  refine ⟨rfl, rfl, fun hbad => ?_⟩
  have hbus : busErrorAccess off n = true := by simpa [busErrorAccess] using hbad
  simp only [decodeEvent, decodeHost, hbus, if_true, and_self]

/-! ### What a read does besides answering (R85, R260, R266) -/

/-- A read answers and, but for RX_DATA with a byte left, leaves everything else. -/
theorem exec_of_encode_read {i : Instr} {off : Offset} {n : Nat} (hi : encode i = .event (.host (.read off n)))
    (s : State) :
    ∃ a, exec i s = .next { s with busOut := s.busOut ++ [a] } ∨
      (off = 0x38#8 ∧ n = 4 ∧ exec i s = .next { s with rdPtr := s.rdPtr + 1, busOut := s.busOut ++ [a] }) := by
  cases eventOp_of_encode hi with
  | rxByte | tick | reset | command | stage => cases hi
  | configure hwrite => cases hi.symm.trans hwrite
  | rxData =>
    cases hi
    cases hb : s.rxDataByte with
    | none => exact ⟨_, .inl (readAnswers_rdRxData_none s hb)⟩
    | some b => exact ⟨_, .inr ⟨rfl, rfl, exec_rdRxData_some s b hb⟩⟩
  | answer hanswer =>
    obtain ⟨a, ha⟩ := hanswer s
    exact ⟨a, .inl ha⟩

/-- Settles O55. -/
theorem readsHaveNoOtherEffect : Obligations.ReadsHaveNoOtherEffect :=
  fun s _ _ => exec_of_encode_read (encode_decodeEvent _) s

/-! ### The reads after Reset (R340) -/

/-- What a read answers right after a Reset, by offset: the six registers that do not read 0. -/
def resetReadWord (p : Params) (off : Offset) : Word :=
  if off = 0x00#8 then 0x0000000C#32
  else if off = 0x08#8 then 3#32
  else if off = 0x0C#8 then BitVec.ofNat 32 p.timeoutReset.toNat
  else if off = 0x10#8 then 1#32
  else if off = 0x2C#8 then BitVec.ofNat 32 (65536 * p.txPayloadMax + p.rxbufMax)
  else if off = 0x30#8 then BitVec.ofNat 32 (256 * p.rxqDepth + p.txqDepth)
  else 0#32

theorem resetReadWord_of_ge (p : Params) {off : Offset} (h : 0x58 ≤ off.toNat) : resetReadWord p off = 0#32 := by
  have hne (k : Offset) (hk : k.toNat < 0x58) : off ≠ k := by
    rintro rfl
    omega
  simp [resetReadWord, hne]

theorem le_of_reserved {off mask base : Offset} (h : off &&& mask = base) : base.toNat ≤ off.toNat := by
  rw [← h, BitVec.toNat_and]
  exact Nat.and_le_left

/-- After Reset nothing is full, since every legal capacity is at least 1. -/
theorem State.statusWord_resetWith {p : Params} (hp : p.Legal) : (State.resetWith p).statusWord = 0#32 := by
  obtain ⟨-, ⟨hpayload, -⟩, ⟨htxq, -⟩, ⟨hrxq, -⟩⟩ := hp
  have hfull {n : Nat} (hn : 1 ≤ n) : (0 == n) = false := beq_eq_false_iff_ne.mpr (by omega)
  have hstage : (State.resetWith p).stageFull = false := hfull hpayload
  have htx : (State.resetWith p).txqFull = false := hfull htxq
  have hrx : (State.resetWith p).rxqFull = false := hfull hrxq
  rw [State.statusWord, hstage, htx, hrx]
  simp [State.rxqNonempty, State.txqNonempty, State.lastValid, State.resetWith, RxState.code]

/-- Row by row: the code of a named row fixes the offset, and the offset of a reserved row lies in its range. -/
theorem readAnswers_resetWith {p : Params} (hp : p.Legal) {off : Offset} {i : Instr}
    (hi : encode i = .event (.host (.read off 4))) (hwf : i.wellFormed Markers.both = true)
    (halign : off.toNat % 4 = 0) : ReadAnswers i (State.resetWith p) (resetReadWord p off) := by
  cases i with
  | rxIdleEsc | rxIdleStray | rxIescSof | rxIescAck | rxIescNak | rxIescOther | rxSeqEsc | rxSeqData | rxSescEsc
  | rxSescBad | rxTypeMk11 | rxTypeMk91 | rxTypeBad | rxInfoEsc | rxInfoData | rxIfescEsc | rxIfescEof | rxIfescAck
  | rxIfescSof | rxIfescBad | cmdNop | cmdEnqueue | cmdRxPop | cmdTxStageClr | cmdLinkReset | cmdCntClr
  | cmdReserved | wrCtrl | wrMaxTries | wrTimeout | wrTxSeq | wrTxData | wrCmd | wrIrqPending | wrIrqEnable
  | wrIgnored | evRxByte | evTick | evReset => cases hi
  | hostBusError a =>
    cases hi
    simp [Instr.wellFormed, wordAccess_iff.mpr halign] at hwf
  | rdReserved058 | rdReserved060 | rdReserved0C0 =>
    cases hi
    obtain ⟨-, hrange⟩ := Bool.and_eq_true_iff.mp hwf
    rw [resetReadWord_of_ge p (le_trans (by decide) (le_of_reserved (eq_of_beq hrange)))]
    rfl
  | rdCtrl => cases hi; exact .congr rfl (State.ctrlWord_eq _)
  | rdStatus => cases hi; exact .congr rfl (State.statusWord_resetWith hp)
  | rdTimeout => cases hi; exact .congr rfl (BitVec.ofNat_toNat _ _).symm
  | rdTxStageLen | rdRxAsmLen => cases hi; exact .congr rfl (lengthWord_eq (Nat.zero_le _))
  | rdCap0 => cases hi; exact .congr rfl (State.cap0Word_eq hp)
  | rdCap1 => cases hi; exact .congr rfl (State.cap1Word_eq hp)
  | rdCrcerrCrc => cases hi; exact .congr rfl (append_halves_eq _ _)
  | rdCrcerrHdr => cases hi; exact .congr rfl (append_half_bytes_eq _ _ _)
  | rdDropInfo => cases hi; exact .congr rfl (State.dropInfoWord_eq _)
  | _ => cases hi; rfl

/-- Settles O47. -/
theorem registerReadsAfterReset : Obligations.RegisterReadsAfterReset :=
  fun _ _ hp halign => readAnswers_resetWith hp (encode_decodeEvent _) (decodeEvent_wellFormed _ _) halign

end Sys2Proof.Machine

/-! The codec (R130 to R140). One CRC step is a map of the 16-bit register into which the byte has been added at the top. The
five steps of R130 and the eight shifts of the polynomial division are both additive over xor, so they agree everywhere once
they agree on the registers with one byte set. The division is moreover injective, which is why no change within one byte
goes unnoticed. -/

namespace Sys2Proof.Machine

/-! ### Maps that are additive over xor -/

/-- Linearity over GF(2). -/
def XorAdditive (f : BitVec 16 → BitVec 16) : Prop := ∀ x y, f (x ^^^ y) = f x ^^^ f y

theorem XorAdditive.id : XorAdditive fun x => x := fun _ _ => rfl

theorem XorAdditive.shiftLeft {f : BitVec 16 → BitVec 16} (h : XorAdditive f) (n : Nat) :
    XorAdditive fun x => f x <<< n :=
  fun x y => by simp only [h x y, BitVec.shiftLeft_xor_distrib]

theorem XorAdditive.ushiftRight {f : BitVec 16 → BitVec 16} (h : XorAdditive f) (n : Nat) :
    XorAdditive fun x => f x >>> n :=
  fun x y => by simp only [h x y, BitVec.ushiftRight_xor_distrib]

theorem XorAdditive.and {f : BitVec 16 → BitVec 16} (h : XorAdditive f) (m : BitVec 16) :
    XorAdditive fun x => f x &&& m :=
  fun x y => by
    simp only [h x y]
    ext i hi
    simp [Bool.and_xor_distrib_right]

theorem XorAdditive.xor {f g : BitVec 16 → BitVec 16} (hf : XorAdditive f) (hg : XorAdditive g) :
    XorAdditive fun x => f x ^^^ g x :=
  fun x y => by simp only [hf x y, hg x y]; ac_rfl

theorem XorAdditive.comp {f g : BitVec 16 → BitVec 16} (hf : XorAdditive f) (hg : XorAdditive g) :
    XorAdditive fun x => f (g x) :=
  fun x y => by simp only [hg x y, hf (g x) (g y)]

theorem XorAdditive.iterate {f : BitVec 16 → BitVec 16} (hf : XorAdditive f) (n : Nat) : XorAdditive f^[n] := by
  induction n with
  | zero => exact .id
  | succ n ih => exact ih.comp hf

/-- The register with a byte in its upper half. -/
def upperByte (b : Byte) : BitVec 16 := b.setWidth 16 <<< 8

theorem register_eq_bytes (x : BitVec 16) : x = upperByte (x.extractLsb' 8 8) ^^^ (x.extractLsb' 0 8).setWidth 16 := by
  refine BitVec.eq_of_getLsbD_eq fun i hi => ?_
  rcases Nat.lt_or_ge i 8 with hlow | hhigh
  · simp [upperByte, hlow, hi]
  · have hbyte : i - 8 < 8 := by omega
    simp [upperByte, hi, Nat.not_lt.mpr hhigh, hbyte, Nat.add_sub_cancel' hhigh]

/-- An additive map that takes only 0 to 0 is injective. -/
theorem XorAdditive.injective {f : BitVec 16 → BitVec 16} (hf : XorAdditive f) (h : ∀ z, f z = 0 → z = 0) :
    Function.Injective f := by
  intro x y hxy
  have hdiff : f (x ^^^ y) = 0 := by rw [hf, hxy, BitVec.xor_self]; rfl
  exact BitVec.xor_eq_zero_iff.mp (h _ hdiff)

/-- Two additive maps that agree on the registers with one byte set are equal. -/
theorem XorAdditive.eq_of_bytes {f g : BitVec 16 → BitVec 16} (hf : XorAdditive f) (hg : XorAdditive g)
    (hupper : ∀ b : Byte, f (upperByte b) = g (upperByte b))
    (hlower : ∀ b : Byte, f (b.setWidth 16) = g (b.setWidth 16)) (x : BitVec 16) : f x = g x := by
  rw [register_eq_bytes x, hf, hg, hupper, hlower]

/-! ### The division by the polynomial (R140) -/

/-- One shift of the division: 0x1021 is taken away when a 1 leaves. -/
def polyShift (x : BitVec 16) : BitVec 16 := if x.getLsbD 15 then (x <<< 1) ^^^ 0x1021#16 else x <<< 1

theorem polyCrcStep_eq (r : BitVec 16) (b : Byte) : polyCrcStep r b = polyShift^[8] (r ^^^ upperByte b) := rfl

/-- What a shift takes away. -/
def polyTap (x : BitVec 16) : BitVec 16 := if x.getLsbD 15 then 0x1021#16 else 0#16

theorem polyShift_eq (x : BitVec 16) : polyShift x = (x <<< 1) ^^^ polyTap x := by
  unfold polyShift polyTap
  split
  · rfl
  · exact BitVec.xor_zero.symm

theorem polyTap_additive : XorAdditive polyTap := by
  intro x y
  simp only [polyTap, BitVec.getLsbD_xor]
  cases x.getLsbD 15 <;> cases y.getLsbD 15 <;> rfl

theorem polyShift_additive : XorAdditive polyShift := by
  rw [funext polyShift_eq]
  exact (XorAdditive.id.shiftLeft 1).xor polyTap_additive

/-- Bit 0 of the result is the bit that left, so a register that becomes 0 has lost none. -/
theorem polyShift_injective : Function.Injective polyShift := by
  refine polyShift_additive.injective fun z hz => ?_
  have hleft : z.getLsbD 15 = false := by
    have hbit : (polyShift z).getLsbD 0 = false := by rw [hz]; rfl
    by_contra hset
    rw [polyShift, if_pos (Bool.of_not_eq_false hset), BitVec.getLsbD_xor] at hbit
    simp at hbit
  have hshift : z <<< 1 = 0 := by rwa [polyShift, hleft, if_neg Bool.false_ne_true] at hz
  refine BitVec.eq_of_getLsbD_eq fun i hi => ?_
  rcases Nat.lt_or_ge i 15 with hlow | htop
  · have hbit : (z <<< 1).getLsbD (i + 1) = false := by rw [hshift]; exact BitVec.getLsbD_zero
    simpa [Nat.succ_lt_succ hlow, BitVec.getLsbD_eq_getElem hi] using hbit
  · obtain rfl : i = 15 := by omega
    exact hleft

theorem upperByte_injective : Function.Injective upperByte := by
  intro b c h
  have hback (d : Byte) : (upperByte d).extractLsb' 8 8 = d := by revert d; decide
  rw [← hback b, h, hback c]

/-! ### The five steps (R130) -/

/-- The first step: the two bytes of the register change places. -/
def crcSwap (x : BitVec 16) : BitVec 16 := (x >>> 8) ||| (x <<< 8)

/-- The last three steps. -/
def crcMix (r2 : BitVec 16) : BitVec 16 :=
  let r3 := r2 ^^^ ((r2 &&& 0x00FF) >>> 4)
  let r4 := r3 ^^^ ((r3 <<< 8) <<< 4)
  r4 ^^^ (((r4 &&& 0x00FF) <<< 4) <<< 1)

/-- The two shifts have no bit in common. -/
theorem crcSwap_eq_xor (x : BitVec 16) : crcSwap x = (x >>> 8) ^^^ (x <<< 8) := by
  ext i hi
  rcases Nat.lt_or_ge i 8 with hlow | hhigh
  · simp [crcSwap, hlow]
  · simp [crcSwap, Nat.not_lt.mpr hhigh, BitVec.getLsbD_of_ge x (8 + i) (by omega)]

theorem crcSwap_additive : XorAdditive crcSwap := by
  simp only [funext crcSwap_eq_xor]
  exact (XorAdditive.id.ushiftRight 8).xor (XorAdditive.id.shiftLeft 8)

theorem crcMix_additive : XorAdditive crcMix := by
  have h3 := XorAdditive.id.xor ((XorAdditive.id.and 0x00FF).ushiftRight 4)
  have h4 := h3.xor ((h3.shiftLeft 8).shiftLeft 4)
  exact h4.xor (((h4.and 0x00FF).shiftLeft 4).shiftLeft 1)

theorem crcSwap_upperByte (b : Byte) : crcSwap (upperByte b) = b.setWidth 16 := by
  revert b; decide

/-- A byte added below after the swap is a byte added above before it. -/
theorem crcStep_eq (r : BitVec 16) (b : Byte) : crcStep r b = crcMix (crcSwap (r ^^^ upperByte b)) := by
  rw [crcSwap_additive, crcSwap_upperByte]
  rfl

theorem crcStep_eq_polyCrcStep : crcStep = polyCrcStep := by
  funext r b
  rw [crcStep_eq, polyCrcStep_eq]
  exact (crcMix_additive.comp crcSwap_additive).eq_of_bytes (polyShift_additive.iterate 8) (by decide) (by decide) _

/-- Settles O25: the two folds have the same step. -/
theorem crcIsPolynomialDivision : Obligations.CrcIsPolynomialDivision := by
  intro bs
  rw [crc16, crcStep_eq_polyCrcStep]
  rfl

/-! ### Changes within one byte (R130) -/

theorem crcStep_inj {r r' : BitVec 16} {b b' : Byte} :
    crcStep r b = crcStep r' b' ↔ r ^^^ upperByte b = r' ^^^ upperByte b' := by
  rw [crcStep_eq_polyCrcStep, polyCrcStep_eq, polyCrcStep_eq]
  exact (polyShift_injective.iterate 8).eq_iff

theorem foldl_crcStep_injective (ys : List Byte) : Function.Injective fun r => ys.foldl crcStep r := by
  induction ys with
  | nil => exact fun _ _ h => h
  | cons y ys ih => exact fun r r' h => (BitVec.xor_left_inj _).mp (crcStep_inj.mp (ih h))

/-- Settles O26: the changed byte changes the register, and every byte after it keeps two registers apart. -/
theorem oneByteChangeChangesCrc : Obligations.OneByteChangeChangesCrc := by
  intro xs ys b c hne heq
  rw [crc16, crc16, List.foldl_append, List.foldl_append, List.foldl_cons, List.foldl_cons] at heq
  have hstep := crcStep_inj.mp (foldl_crcStep_injective ys heq)
  exact hne (upperByte_injective ((BitVec.xor_right_inj _).mp hstep))

/-! ### The bytes of a frame (R101, R132 to R136) -/

theorem terminate_ends_in_lf (p : List Byte) : ∃ l, terminate p = l ++ [Wire.lf] := by
  by_cases h : p.getLast? = some Wire.lf
  · rw [terminate_of_terminated p h]
    exact List.getLast?_eq_some_iff.mp h
  · exact ⟨p, terminate_of_unterminated p h⟩

theorem encodeFrame_eq (q m : Byte) (p : List Byte) :
    encodeFrame q m p = [0x10#8, 0x00#8] ++ stuff (logicalFrame q m (terminate p)) ++ [0x10#8, 0xFF#8] := rfl

/-- A marker is no escape, so stuffing leaves it single. -/
theorem count_esc_logicalFrame (q : Byte) {m : Byte} (hm : IsMarker m) (p : List Byte) :
    (logicalFrame q m p).count Wire.esc = (q :: p ++ crcBytes (q :: m :: p)).count Wire.esc := by
  have hne : m ≠ Wire.esc := by
    rcases hm with rfl | rfl <;> decide
  rw [logicalFrame_eq, List.cons_append, List.count_cons, List.count_cons_of_ne hne, List.count_cons]

/-- The terminator is no escape. -/
theorem count_esc_terminated_le (q : Byte) (p l : List Byte) :
    (q :: terminate p ++ l).count Wire.esc ≤ (terminate p).length + l.length := by
  obtain ⟨l', hl'⟩ := terminate_ends_in_lf p
  have hlf : [Wire.lf].count Wire.esc = 0 := rfl
  have hq : [q].count Wire.esc ≤ 1 := List.count_le_length
  have hbody := List.count_le_length (a := Wire.esc) (l := l')
  have hrest := List.count_le_length (a := Wire.esc) (l := l)
  rw [← List.singleton_append, hl']
  simp only [List.count_append, List.length_append, List.length_singleton]
  omega

/-- Settles O27. -/
theorem frameLengthBounds : Obligations.FrameLengthBounds := by
  intro q m p hm pt k
  obtain ⟨hpos, -, hle⟩ : 1 ≤ pt.length ∧ _ ∧ pt.length ≤ p.length + 1 := terminate_length p
  have hcrc : (crcBytes (q :: m :: pt)).length = 2 := crcBytes_length _
  have hk : k ≤ pt.length + 2 := hcrc ▸ count_esc_terminated_le q p _
  have hlogical : (logicalFrame q m pt).length = pt.length + 4 := logicalFrame_length q m pt
  have hstuffed : (stuff (logicalFrame q m pt)).length = pt.length + 4 + k := by
    rw [stuff_length, hlogical, count_esc_logicalFrame q hm]
  have hwire : (encodeFrame q m p).length = pt.length + 8 + k := by
    rw [encodeFrame_eq, List.length_append, List.length_append, hstuffed]
    simp only [List.length_cons, List.length_nil]
    omega
  have hlower : 9 ≤ (encodeFrame q m p).length := by
    rw [hwire]
    omega
  have hupper : (encodeFrame q m p).length ≤ 2 * pt.length + 10 := by
    rw [hwire]
    omega
  exact ⟨hpos, hle, hlogical, hwire, hk, hlower, hupper⟩

/-! ### Pairs of escapes (R105, R133) -/

theorem allEscapesPaired_plain {b : Byte} (h : b ≠ Wire.esc) (l : List Byte) :
    AllEscapesPaired (b :: l) = AllEscapesPaired l := by
  cases l with
  | nil => simp [AllEscapesPaired, h]
  | cons c l => simp [AllEscapesPaired, h]

theorem allEscapesPaired_pair (l : List Byte) :
    AllEscapesPaired (Wire.esc :: Wire.esc :: l) = AllEscapesPaired l := by
  simp [AllEscapesPaired]

theorem allEscapesPaired_stuff (l : List Byte) : AllEscapesPaired (stuff l) = true := by
  induction l with
  | nil => rfl
  | cons b l ih =>
    by_cases h : b = Wire.esc
    · rw [h, stuff_esc, allEscapesPaired_pair, ih]
    · rw [stuff_plain b l h, allEscapesPaired_plain h, ih]

/-- Settles O28: the body is a stuffed sequence. -/
theorem frameBodyPairsEveryEscape : Obligations.FrameBodyPairsEveryEscape :=
  fun q m p => ⟨_, encodeFrame_eq q m p, allEscapesPaired_stuff _⟩

end Sys2Proof.Machine

/-! Received byte sequences (R138, R162, R183, R203, R205). `State.Receives` says that a state and the bytes it receives lead
to another state, whatever events wait behind them; it composes along the append of byte sequences, so a frame is fed as its
start pair, its sequence byte, its marker, its stuffed rest and its end pair. -/

namespace Sys2Proof.Machine

/-! ### Runs -/

theorem RunsTo.refl (s : State) : RunsTo 0 s s := rfl

/-- A run is a step and then the rest of the run, for every machine. -/
theorem core_run_succ (M : Host.Core) {n : Nat} {s t : M.State} :
    M.run (n + 1) s = .next t ↔ ∃ u, M.step s = .next u ∧ M.run n u = .next t := by
  rw [Host.Core.run]
  cases M.step s with
  | next u => exact ⟨fun h => ⟨u, rfl, h⟩, fun ⟨_, hu, h⟩ => by cases hu; exact h⟩
  | fault r => exact ⟨fun h => (by cases h), fun ⟨_, hu, _⟩ => (by cases hu)⟩
  | refused r => exact ⟨fun h => (by cases h), fun ⟨_, hu, _⟩ => (by cases hu)⟩

theorem runsTo_succ {n : Nat} {s t : State} : RunsTo (n + 1) s t ↔ ∃ u, step s = .next u ∧ RunsTo n u t :=
  core_run_succ Sys2Proof.core

theorem RunsTo.trans {n k : Nat} {s u t : State} (h : RunsTo n s u) (h' : RunsTo k u t) : RunsTo (n + k) s t := by
  induction n generalizing s with
  | zero =>
    cases h
    rwa [Nat.zero_add]
  | succ n ih =>
    obtain ⟨v, hv, hrun⟩ := runsTo_succ.mp h
    rw [Nat.add_right_comm]
    exact runsTo_succ.mpr ⟨v, hv, ih hrun⟩

/-! ### Receiving bytes -/

/-- Receiving `bs` leads from `s` to `t`, whatever events wait behind those bytes. -/
def State.Receives (s : State) (bs : List Byte) (t : State) : Prop :=
  ∀ rest, RunsTo bs.length { s with input := bs.map .rxByte ++ rest } { t with input := rest }

theorem State.Receives.append {s u t : State} {bs cs : List Byte} (h : s.Receives bs u) (h' : u.Receives cs t) :
    s.Receives (bs ++ cs) t := by
  intro rest
  rw [List.length_append, List.map_append, List.append_assoc]
  exact (h _).trans (h' rest)

/-- One byte, given the row it selects and the row's effect. -/
theorem State.Receives.byte {s t : State} {st : RxState} {b : Byte} {row : Instr} (hr : ReceivesIn s st)
    (hrow : (rxRow s.markers st b).toInstr = row)
    (h : ∀ rest, exec row { s with input := rest } = .next { t with input := rest }) : s.Receives [b] t := by
  intro rest
  refine runsTo_succ.mpr ⟨{ t with input := rest }, ?_, .refl _⟩
  rw [step_of_input _ (.rxByte b) rest rfl]
  exact (evRxByte_of_receivesIn (s := { s with input := rest }) hr hrow).trans (h rest)

theorem State.Receives.runsTo {s t : State} {bs : List Byte} (h : s.Receives bs t) {rest : List Event}
    (hinput : s.input = bs.map .rxByte ++ rest) : RunsTo bs.length s { t with input := rest } := by
  have hrun := h rest
  rwa [← hinput] at hrun

/-! ### Appended bytes (R162) -/

theorem State.append_with_input (s : State) (b : Byte) (st : RxState) (rest : List Event) :
    State.append { s with input := rest } b st = { s.append b st with input := rest } := by
  by_cases hfull : s.asm.length = s.params.rxbufMax
  · rw [s.append_full b st hfull]
    exact State.append_full { s with input := rest } b st hfull
  · simp only [State.append, if_neg hfull]
    rfl

/-- One byte whose row appends it. -/
theorem State.Receives.appended {s : State} {st st' : RxState} {b : Byte} {row : Instr} (hr : ReceivesIn s st)
    (hrow : (rxRow s.markers st b).toInstr = row) (h : ∀ u, exec row u = .next (u.append b st')) :
    s.Receives [b] (s.append b st') :=
  .byte hr hrow fun rest => by rw [h, s.append_with_input]

/-- One byte whose row appends it to a buffer with room. -/
theorem State.Receives.stored {s : State} {st st' : RxState} {b : Byte} {row : Instr} (hr : ReceivesIn s st)
    (hrow : (rxRow s.markers st b).toInstr = row) (h : ∀ u, exec row u = .next (u.append b st')) (hst' : st' ≠ .idle)
    (hroom : s.asm.length ≠ s.params.rxbufMax) :
    s.Receives [b] { s with asm := s.asm ++ [b], rxState := st' } :=
  s.append_room b st' hroom hst' ▸ .appended hr hrow h

/-- An appending row on a full buffer drops the byte with NAK, and so does the byte that selects the row. -/
theorem RowRuns.of_full {s : State} {b : Byte} {st st' : RxState} {row : Instr} {selected : Prop}
    (hfull : s.asm.length = s.params.rxbufMax) (h : exec row s = .next (s.append b st'))
    (hsel : selected → ReceivesIn s st ∧ (rxRow s.markers st b).toInstr = row) :
    RowRuns row b selected s
      { s with
        rxState := .idle, asm := []
        txOut := s.txOut ++ [0x10#8, 0x12#8]
        cnt := s.cnt.bump .rxOverflow
        lastEvt := 8#4
        irqPending := s.irqPending ||| 0x040#9 } :=
  .of_decode st (h.trans (congrArg Host.Outcome.next (s.append_full b st' hfull))) hsel

/-- Settles O17. -/
theorem fullBufferOverflows : Obligations.FullBufferOverflows := by
  intro s b hfull
  refine ⟨.of_full (st := .seqNo) hfull (exec_rxSeqData b s) ?_,
    .of_full (st := .seqNoEscape) hfull (exec_rxSescEsc s) fun h => ⟨h, rfl⟩,
    .of_full (st := .type) hfull (exec_rxTypeMk11 s) ?_, .of_full (st := .type) hfull (exec_rxTypeMk91 s) ?_,
    .of_full (st := .infoFrame) hfull (exec_rxInfoData b s) ?_,
    .of_full (st := .infoFrameEscape) hfull (exec_rxIfescEsc s) fun h => ⟨h, rfl⟩⟩
  · rintro ⟨hr, hb⟩
    exact ⟨hr, by rw [toInstr_rxRow_seqNo, if_neg hb]⟩
  · rintro ⟨hr, hacc⟩
    exact ⟨hr, by rw [toInstr_rxRow_type, if_pos ⟨rfl, hacc⟩]⟩
  · rintro ⟨hr, hacc⟩
    exact ⟨hr, by rw [toInstr_rxRow_type, if_neg (by simp), if_pos ⟨rfl, hacc⟩]⟩
  · rintro ⟨hr, hb⟩
    exact ⟨hr, by rw [toInstr_rxRow_infoFrame, if_neg hb]⟩

/-! ### The start pair (R183) -/

/-- What R183 says of a start pair, by the state that receives it. -/
def StartPairOutcome (s t : State) : Prop :=
  (s.rxState = .idle ∨ s.rxState = .seqNo ∨ s.rxState = .infoFrame → t.rxState = .seqNo ∧ t.asm = []) ∧
    (s.rxState = .idleEscape → t.rxState = .idle ∧ t.cnt = s.cnt.bump .rxStray ∧ t.txOut = s.txOut) ∧
    (s.rxState = .seqNoEscape →
      t.rxState = .idle ∧ t.cnt = s.cnt.bump .rxBadmarker ∧ t.txOut = s.txOut ++ [0x10#8, 0x12#8]) ∧
    (s.rxState = .type →
      t.rxState = .idle ∧ t.cnt = (s.cnt.bump .rxBadmarker).bump .rxStray ∧
        t.txOut = s.txOut ++ [0x10#8, 0x12#8]) ∧
    (s.rxState = .infoFrameEscape → s.asm.length + 2 ≤ s.params.rxbufMax →
      t.rxState = .infoFrame ∧ t.asm = s.asm ++ [0x10#8, 0x00#8] ∧ t.txOut = s.txOut)

/-- A byte that finds the machine idle and is no escape is lost. -/
theorem State.Receives.stray {s : State} (hr : ReceivesIn s .idle) :
    s.Receives [0x00#8] { s with rxState := .idle, asm := [], cnt := s.cnt.bump .rxStray, lastEvt := 1#4 } :=
  .byte hr rfl fun _ => exec_rxIdleStray _ _

/-- A byte in Type that is no marker at all. -/
theorem State.Receives.badMarker {s : State} {b : Byte} (hr : ReceivesIn s .type) (hb : ¬ IsMarker b) :
    s.Receives [b]
      { s with
        rxState := .idle, asm := []
        txOut := s.txOut ++ [0x10#8, 0x12#8]
        cnt := s.cnt.bump .rxBadmarker
        lastEvt := 3#4
        irqPending := s.irqPending ||| 0x040#9 } := by
  obtain ⟨h11, h91⟩ := not_or.mp hb
  refine .byte hr ?_ fun _ => exec_rxTypeBad b _
  rw [toInstr_rxRow_type, if_neg fun h => h11 h.1, if_neg fun h => h91 h.1]

/-- The start pair begins a frame in an idle receiver (R163, R165). -/
theorem State.Receives.startPair {s : State} (hr : ReceivesIn s .idle) :
    s.Receives [0x10#8, 0x00#8] { s with rxState := .seqNo, asm := [] } := by
  have hesc : s.Receives [0x10#8] { s with rxState := .idleEscape } := .byte hr rfl fun _ => exec_rxIdleEsc _
  obtain ⟨hen, -⟩ := hr
  exact hesc.append (.byte (st := .idleEscape) ⟨hen, rfl⟩ rfl fun _ => exec_rxIescSof _)

/-- In an escape inside a frame the two bytes are data; an overflow may end the frame at either of them (R162). -/
theorem receives_startPair_infoFrameEscape {s : State} (hr : ReceivesIn s .infoFrameEscape) :
    ∃ t, s.Receives [0x10#8, 0x00#8] t ∧ StartPairOutcome s t := by
  obtain ⟨hen, hst⟩ := hr
  by_cases hfull : s.asm.length = s.params.rxbufMax
  · have hdropped : s.Receives [0x10#8] (s.append 0x10#8 .infoFrame) := .appended ⟨hen, hst⟩ rfl exec_rxIfescEsc
    rw [s.append_full 0x10#8 .infoFrame hfull] at hdropped
    exact ⟨_, hdropped.append (.stray ⟨hen, rfl⟩), by simp [StartPairOutcome, hst, hfull]⟩
  have hfirst : s.Receives [0x10#8] { s with asm := s.asm ++ [0x10#8], rxState := .infoFrame } :=
    .stored ⟨hen, hst⟩ rfl exec_rxIfescEsc (by decide) hfull
  have hsecond := State.Receives.appended (s := { s with asm := s.asm ++ [0x10#8], rxState := .infoFrame })
    (b := 0x00#8) ⟨hen, rfl⟩ rfl (exec_rxInfoData 0x00#8)
  refine ⟨_, hfirst.append hsecond, ?_⟩
  simp only [StartPairOutcome, hst, reduceCtorEq, or_self, false_implies, true_implies, true_and]
  intro hroom
  rw [State.append_room _ _ _ (by simp; omega) (by decide)]
  exact ⟨rfl, by simp, rfl⟩

/-- By the state that receives the pair; the buffer is the one R35 gives that state. -/
theorem receives_startPair {s : State} (h : s.Inv) (hen : s.ctrl.en = true) :
    ∃ t, s.Receives [0x10#8, 0x00#8] t ∧ StartPairOutcome s t := by
  cases hst : s.rxState with
  | idle =>
    exact ⟨_, .startPair ⟨hen, hst⟩, by simp [StartPairOutcome, hst]⟩
  | idleEscape =>
    have hother : s.Receives [0x10#8] { s with rxState := .idle, asm := [] } :=
      .byte ⟨hen, hst⟩ rfl fun _ => exec_rxIescOther _ _
    exact ⟨_, hother.append (.stray ⟨hen, rfl⟩), by simp [StartPairOutcome, hst]⟩
  | seqNo =>
    have hnil := h.asm_eq_nil (.inl hst)
    have hesc : s.Receives [0x10#8] { s with rxState := .seqNoEscape } := .byte ⟨hen, hst⟩ rfl fun _ => exec_rxSeqEsc _
    have hbad := State.Receives.byte (s := { s with rxState := .seqNoEscape }) (b := 0x00#8)
      (t := { s with
        rxState := .seqNo
        cnt := s.cnt.bump .rxBadesc
        lastEvt := 2#4
        irqPending := s.irqPending ||| 0x040#9 }) ⟨hen, rfl⟩ rfl fun _ => exec_rxSescBad _ _
    exact ⟨_, hesc.append hbad, by simp [StartPairOutcome, hst, hnil]⟩
  | seqNoEscape =>
    have hnil := h.asm_eq_nil (.inr hst)
    have hseq : s.Receives [0x10#8] { s with asm := s.asm ++ [0x10#8], rxState := .type } :=
      .stored ⟨hen, hst⟩ rfl exec_rxSescEsc (by decide) (h.asm_has_room (by simp [hnil]))
    exact ⟨_, hseq.append (.badMarker ⟨hen, rfl⟩ (by decide)), by simp [StartPairOutcome, hst]⟩
  | type =>
    have hbad := State.Receives.badMarker (b := 0x10#8) ⟨hen, hst⟩ (by decide)
    exact ⟨_, hbad.append (.stray ⟨hen, rfl⟩), by simp [StartPairOutcome, hst]⟩
  | infoFrame =>
    have hesc : s.Receives [0x10#8] { s with rxState := .infoFrameEscape } :=
      .byte ⟨hen, hst⟩ rfl fun _ => exec_rxInfoEsc _
    have hsof := State.Receives.byte (s := { s with rxState := .infoFrameEscape }) (b := 0x00#8)
      (t := { s with
        rxState := .seqNo, asm := []
        cnt := s.cnt.bump .rxAbort
        lastEvt := 4#4
        irqPending := s.irqPending ||| 0x040#9 }) ⟨hen, rfl⟩ rfl fun _ => exec_rxIfescSof _
    exact ⟨_, hesc.append hsof, by simp [StartPairOutcome, hst]⟩
  | infoFrameEscape => exact receives_startPair_infoFrameEscape ⟨hen, hst⟩

/-- Settles O56. -/
theorem startPairResynchronises : Obligations.StartPairResynchronises := by
  intro s rest h hen hinput
  obtain ⟨t, hrun, houtcome⟩ := receives_startPair h hen
  exact ⟨{ t with input := rest }, hrun.runsTo hinput, rfl, houtcome⟩

end Sys2Proof.Machine

/-! A frame fed to the receiver (R138, R203, R205): its parts one after another up to the end marker's row, whose verdict the
guard's statements give. -/

namespace Sys2Proof.Machine

/-! ### The parts of a frame -/

theorem State.Receives.nil (s : State) : s.Receives [] s := fun _ => .refl _

/-- A byte of the frame's rest, alone or as a pair of escapes (R175 to R177). -/
theorem State.Receives.stuffedByte {s : State} {b : Byte} (hr : ReceivesIn s .infoFrame)
    (hroom : s.asm.length ≠ s.params.rxbufMax) :
    s.Receives (stuff [b]) { s with asm := s.asm ++ [b], rxState := .infoFrame } := by
  by_cases hb : b = Wire.esc
  · subst hb
    have hesc : s.Receives [Wire.esc] { s with rxState := .infoFrameEscape } := .byte hr rfl fun _ => exec_rxInfoEsc _
    obtain ⟨hen, -⟩ := hr
    exact hesc.append (.stored (st := .infoFrameEscape) ⟨hen, rfl⟩ rfl exec_rxIfescEsc (by decide) hroom)
  · rw [stuff_plain b [] hb]
    exact .stored hr (by rw [toInstr_rxRow_infoFrame, if_neg hb]) (exec_rxInfoData b) (by decide) hroom

/-- A stuffed sequence is appended as it was before stuffing (R133, R105). -/
theorem State.Receives.stuffed {s : State} (l : List Byte) (hr : ReceivesIn s .infoFrame)
    (hroom : s.asm.length + l.length ≤ s.params.rxbufMax) :
    s.Receives (stuff l) { s with asm := s.asm ++ l, rxState := .infoFrame } := by
  induction l generalizing s with
  | nil =>
    obtain ⟨-, hst⟩ := hr
    rw [List.append_nil, ← hst]
    exact .nil s
  | cons b l ih =>
    rw [List.length_cons] at hroom
    have hfirst : s.Receives (stuff [b]) { s with asm := s.asm ++ [b], rxState := .infoFrame } :=
      .stuffedByte hr (by omega)
    have hrest := ih (s := { s with asm := s.asm ++ [b], rxState := .infoFrame }) ⟨hr.1, rfl⟩ (by simp; omega)
    rw [List.append_assoc] at hrest
    rw [← List.singleton_append, stuff_append]
    exact hfirst.append hrest

/-- The sequence byte, alone or as a pair of escapes (R169 to R171). -/
theorem State.Receives.seqByte {s : State} {q : Byte} (hr : ReceivesIn s .seqNo)
    (hroom : s.asm.length ≠ s.params.rxbufMax) :
    s.Receives (stuff [q]) { s with asm := s.asm ++ [q], rxState := .type } := by
  by_cases hq : q = Wire.esc
  · subst hq
    have hesc : s.Receives [Wire.esc] { s with rxState := .seqNoEscape } := .byte hr rfl fun _ => exec_rxSeqEsc _
    obtain ⟨hen, -⟩ := hr
    exact hesc.append (.stored (st := .seqNoEscape) ⟨hen, rfl⟩ rfl exec_rxSescEsc (by decide) hroom)
  · rw [stuff_plain q [] hq]
    exact .stored hr (by rw [toInstr_rxRow_seqNo, if_neg hq]) (exec_rxSeqData q) (by decide) hroom

/-- A known marker (R173). -/
theorem State.Receives.marker {s : State} {m : Byte} (hr : ReceivesIn s .type) (hm : s.markers.known m = true)
    (hroom : s.asm.length ≠ s.params.rxbufMax) :
    s.Receives [m] { s with asm := s.asm ++ [m], rxState := .infoFrame } := by
  rcases (Markers.known_iff _ m).mp hm with ⟨rfl, hacc⟩ | ⟨rfl, hacc⟩
  · exact .stored hr (by rw [toInstr_rxRow_type, if_pos ⟨rfl, hacc⟩]) exec_rxTypeMk11 (by decide) hroom
  · have hother : ¬ (Wire.mkT2E = 0x11#8 ∧ s.markers.acc11 = true) := fun h => absurd h.1 (by decide)
    exact .stored hr (by rw [toInstr_rxRow_type, if_neg hother, if_pos ⟨rfl, hacc⟩]) exec_rxTypeMk91 (by decide) hroom

theorem isMarker_of_known {ms : Markers} {m : Byte} (h : ms.known m = true) : IsMarker m :=
  ((Markers.known_iff ms m).mp h).imp And.left And.left

/-- A frame on the line: only its marker is never stuffed. -/
theorem wrap_eq_parts (q : Byte) {m : Byte} (hm : IsMarker m) (p : List Byte) :
    wrap q m p =
      [Wire.esc, Wire.sof] ++
        (stuff [q] ++ ([m] ++ (stuff (p ++ crcBytes (q :: m :: p)) ++ ([Wire.esc] ++ [Wire.eof])))) := by
  have hne : m ≠ Wire.esc := by
    rcases hm with rfl | rfl <;> decide
  have hstuff : stuff (logicalFrame q m p) = stuff [q] ++ (m :: stuff (p ++ crcBytes (q :: m :: p))) := by
    rw [logicalFrame_eq, ← List.singleton_append, stuff_append, stuff_plain m _ hne]
  rw [wrap, hstuff]
  simp

/-- A frame leads an idle receiver with room to the end marker's row on the frame's logical bytes. -/
theorem State.Receives.frame {s t : State} {q m : Byte} {p : List Byte} (hr : ReceivesIn s .idle)
    (hm : s.markers.known m = true) (hroom : p.length + 4 ≤ s.params.rxbufMax)
    (hend : ∀ rest,
      exec .rxIfescEof { s with rxState := .infoFrameEscape, asm := logicalFrame q m p, input := rest } =
        .next { t with input := rest }) :
    s.Receives (wrap q m p) t := by
  have hstart := State.Receives.startPair hr
  obtain ⟨hen, -⟩ := hr
  have hseq := State.Receives.seqByte (s := { s with rxState := .seqNo, asm := [] }) (q := q) ⟨hen, rfl⟩
    (by show 0 ≠ s.params.rxbufMax; omega)
  have hmarker := State.Receives.marker (s := { s with rxState := .type, asm := [q] }) ⟨hen, rfl⟩ hm
    (by show 1 ≠ s.params.rxbufMax; omega)
  have hbody := State.Receives.stuffed (s := { s with rxState := .infoFrame, asm := [q, m] })
    (p ++ crcBytes (q :: m :: p)) ⟨hen, rfl⟩
    (by
      rw [List.length_append, crcBytes_length]
      show 2 + (p.length + 2) ≤ s.params.rxbufMax
      omega)
  have hesc := State.Receives.byte (s := { s with rxState := .infoFrame, asm := logicalFrame q m p }) (b := Wire.esc)
    (t := { s with rxState := .infoFrameEscape, asm := logicalFrame q m p }) ⟨hen, rfl⟩ rfl
    fun _ => exec_rxInfoEsc _
  have heof := State.Receives.byte (s := { s with rxState := .infoFrameEscape, asm := logicalFrame q m p })
    (b := Wire.eof) (st := .infoFrameEscape) ⟨hen, rfl⟩ rfl hend
  rw [wrap_eq_parts q (isMarker_of_known hm) p]
  exact hstart.append (hseq.append (hmarker.append (hbody.append (hesc.append heof))))

/-! ### A new frame and its repetition (R203, R205) -/

section Frame

variable {s : State} {q m : Byte} {p : List Byte} (hr : ReceivesIn s .idle) (hm : s.markers.known m = true)
  (hroom : p.length + 4 ≤ s.params.rxbufMax)

include hr hm hroom

theorem State.Receives.newFrame (hnew : ∀ l, s.last = some l → l.seq ≠ q) (hfifo : s.rxq.length ≠ s.params.rxqDepth) :
    s.Receives (wrap q m p)
      { s with
        asm := []
        txOut := s.txOut ++ [0x10#8, 0x11#8]
        last := some { seq := q, marker := m, body := p ++ crcBytes (q :: m :: p) }
        rxq := s.rxq ++ [{ seq := q, marker := m, payload := p }]
        cnt := s.cnt.bump .rxOk
        irqPending := s.irqPending ||| 0x001#9 } := by
  refine .frame hr hm hroom fun rest => ?_
  obtain ⟨hrow, -⟩ := newFrameIsAccepted
    { s with rxState := .infoFrameEscape, asm := logicalFrame q m p, input := rest } q m _ _ p rfl
    (high_append_low _).symm hnew hfifo
  obtain ⟨-, hst⟩ := hr
  rwa [← hst] at hrow

theorem State.Receives.repeatedFrame
    (hlast : s.last = some { seq := q, marker := m, body := p ++ crcBytes (q :: m :: p) }) :
    s.Receives (wrap q m p)
      { s with
        asm := []
        txOut := s.txOut ++ [0x10#8, 0x11#8]
        cnt := s.cnt.bump .rxDup
        lastEvt := 6#4
        irqPending := s.irqPending ||| 0x010#9 } := by
  refine .frame hr hm hroom fun rest => ?_
  obtain ⟨hrow, -⟩ := replayIsAckedNotDelivered
    { s with rxState := .infoFrameEscape, asm := logicalFrame q m p, input := rest } q m _ _ p rfl
    (high_append_low _).symm hlast
  obtain ⟨-, hst⟩ := hr
  rwa [← hst] at hrow

end Frame

/-- Settles O57. -/
theorem sentFrameIsDelivered : Obligations.SentFrameIsDelivered :=
  fun _ _ _ _ _ hr hm hnew hfifo hroom hinput => (State.Receives.newFrame hr hm hroom hnew hfifo).runsTo hinput

/-- Settles O58: the second time the frame is the last accepted one. -/
theorem repeatedFrameIsDeliveredOnce : Obligations.RepeatedFrameIsDeliveredOnce := by
  intro s q m p rest hr hm hnew hfifo hroom hinput
  have hfirst := State.Receives.newFrame hr hm hroom hnew hfifo
  have hboth := hfirst.append (State.Receives.repeatedFrame (q := q) (m := m) (p := p) hr hm hroom rfl)
  have hrun := hboth.runsTo hinput
  rw [List.length_append, ← Nat.two_mul, List.append_assoc, BitVec.or_assoc] at hrun
  exact hrun

end Sys2Proof.Machine

/-! The retry timeline (R222 to R225, R229, R361). `State.TicksTo` says that a number of ticks leads from one state to
another, whatever events wait behind them. A round is the ticks up to TIMEOUT and the one past it, which sends the head again
or drops it; the two statements count rounds. -/

namespace Sys2Proof.Machine

/-! ### Ticks in a row -/

/-- `n` ticks lead from `s` to `t`, whatever events wait behind them. -/
def State.TicksTo (s : State) (n : Nat) (t : State) : Prop :=
  ∀ rest, RunsTo n { s with input := List.replicate n .tick ++ rest } { t with input := rest }

theorem State.TicksTo.zero (s : State) : s.TicksTo 0 s := fun _ => .refl _

theorem State.TicksTo.add {s u t : State} {n k : Nat} (h : s.TicksTo n u) (h' : u.TicksTo k t) :
    s.TicksTo (n + k) t := by
  intro rest
  rw [List.replicate_add, List.append_assoc]
  exact (h _).trans (h' rest)

theorem State.TicksTo.one {s t : State} (h : ∀ rest, State.tick { s with input := rest } = { t with input := rest }) :
    s.TicksTo 1 t := by
  intro rest
  refine runsTo_succ.mpr ⟨{ t with input := rest }, ?_, .refl _⟩
  rw [step_of_input _ .tick rest rfl, ← h]
  rfl

theorem State.TicksTo.runsTo {s t : State} {n : Nat} (h : s.TicksTo n t) {rest : List Event}
    (hinput : s.input = List.replicate n .tick ++ rest) : RunsTo n s { t with input := rest } := by
  have hrun := h rest
  rwa [← hinput] at hrun

/-! ### One round -/

/-- Ticks within TIMEOUT only count. -/
theorem State.TicksTo.counts {s : State} (hen : s.ctrl.en = true) (hq : s.txq ≠ []) (j : Nat)
    (hj : s.elapsed.toNat + j ≤ s.timeout.toNat) :
    ∃ e : BitVec 17, e.toNat = s.elapsed.toNat + j ∧ s.TicksTo j { s with elapsed := e } := by
  induction j with
  | zero => exact ⟨s.elapsed, rfl, .zero s⟩
  | succ j ih =>
    obtain ⟨e, he, hticks⟩ := ih (by omega)
    have htimeout : s.timeout.toNat < 65536 := s.timeout.isLt
    have hnext : (e + 1).toNat = s.elapsed.toNat + (j + 1) := by
      rw [toNat_succ_of_le_65536 (by omega), he, Nat.add_assoc]
    refine ⟨e + 1, hnext, hticks.add (.one fun rest => ?_)⟩
    exact State.tick_counts { s with elapsed := e, input := rest } hen hq (by show e.toNat + 1 ≤ s.timeout.toNat; omega)

/-- What a drop for a timeout leaves, the next frame being sent in the same event (R225, R221). -/
def State.timedOut (s : State) (f : TxFrame) (r : List TxFrame) : State :=
  { s with
    txq := r, tries := 0, elapsed := 0
    dropInfo := { seq := f.seq, marker := f.marker, cause := 0#1 }
    txOut := s.txOut ++ (r.head?.map (·.wire)).getD []
    cnt := if r = [] then s.cnt.bump .txDrop else (s.cnt.bump .txDrop).bump .txFrames
    lastEvt := 10#4
    irqPending := s.irqPending ||| 0x004#9 }

section Round

variable {s : State} {f : TxFrame} {r : List TxFrame} (hen : s.ctrl.en = true) (hq : s.txq = f :: r)
  (hrange : s.elapsed.toNat ≤ 65536)

include hen hq hrange

/-- The ticks after which the next one exceeds TIMEOUT: none where it does already. -/
theorem State.TicksTo.timeout :
    ∃ e : BitVec 17, e.toNat ≤ 65536 ∧ s.timeout.toNat < e.toNat + 1 ∧
      s.TicksTo (s.timeout.toNat - s.elapsed.toNat) { s with elapsed := e } := by
  rcases Nat.le_total s.timeout.toNat s.elapsed.toNat with hpast | hwithin
  · rw [Nat.sub_eq_zero_of_le hpast]
    exact ⟨s.elapsed, hrange, Nat.lt_succ_of_le hpast, .zero s⟩
  · have htimeout : s.timeout.toNat < 65536 := s.timeout.isLt
    obtain ⟨e, he, hticks⟩ := State.TicksTo.counts hen (by simp [hq]) (s.timeout.toNat - s.elapsed.toNat) (by omega)
    exact ⟨e, by omega, by omega, hticks⟩

/-- A round in which the head is sent again (R224). -/
theorem State.TicksTo.retransmits (htries : s.tries.toNat ≤ s.maxTries.toNat) :
    s.TicksTo (s.timeout.toNat - s.elapsed.toNat + 1)
      { s with
        tries := s.tries + 1, elapsed := 0
        txOut := s.txOut ++ f.wire
        cnt := s.cnt.bump .txRetry } := by
  obtain ⟨e, he, hpast, hticks⟩ := State.TicksTo.timeout hen hq hrange
  exact hticks.add
    (.one fun rest => State.tick_retransmits { s with elapsed := e, input := rest } f r hq hen he hpast htries)

/-- A round in which the head is dropped (R225). -/
theorem State.TicksTo.drops (htries : s.maxTries.toNat < s.tries.toNat) :
    s.TicksTo (s.timeout.toNat - s.elapsed.toNat + 1) (s.timedOut f r) := by
  obtain ⟨e, he, hpast, hticks⟩ := State.TicksTo.timeout hen hq hrange
  refine hticks.add (.one fun rest => ?_)
  rw [State.tick_drops { s with elapsed := e, input := rest } f r hq hen he hpast htries]
  cases r with
  | nil =>
    rw [State.startHead_nil _ rfl, State.timedOut, if_pos rfl]
    simp
  | cons g r =>
    rw [State.startHead_cons _ g r rfl]
    rfl

end Round

/-! ### Rounds in a row -/

/-- The state after `k` rounds without an answer: the head has been sent `k` times again. -/
def State.retried (s : State) (f : TxFrame) (k : Nat) : State :=
  { s with
    tries := BitVec.ofNat 9 k, elapsed := 0
    txOut := s.txOut ++ (List.replicate k f.wire).flatten
    cnt := (Counters.bump · .txRetry)^[k] s.cnt }

theorem State.retried_tries (s : State) (f : TxFrame) {k : Nat} (hk : k ≤ s.maxTries.toNat + 1) :
    (s.retried f k).tries.toNat = k := by
  have hmax : s.maxTries.toNat < 256 := s.maxTries.isLt
  exact (BitVec.toNat_ofNat k 9).trans (Nat.mod_eq_of_lt (by omega))

/-- The `k`th of the tries that MAX_TRIES allows is one more round of TIMEOUT + 1 ticks. -/
theorem State.TicksTo.retries {s : State} {f : TxFrame} {r : List TxFrame} (hen : s.ctrl.en = true)
    (hq : s.txq = f :: r) (htries : s.tries = 0) (helapsed : s.elapsed = 0) (k : Nat)
    (hk : k ≤ s.maxTries.toNat + 1) : s.TicksTo (k * (s.timeout.toNat + 1)) (s.retried f k) := by
  induction k with
  | zero =>
    have hstart : s.retried f 0 = s := by
      have hzero : BitVec.ofNat 9 0 = s.tries := htries.symm
      rw [State.retried, hzero, ← helapsed]
      simp
    rw [hstart, Nat.zero_mul]
    exact .zero s
  | succ k ih =>
    have hround := State.TicksTo.retransmits (s := s.retried f k) hen hq (Nat.zero_le _)
      (by rw [s.retried_tries f (by omega)]; exact Nat.le_of_succ_le_succ hk)
    have hnext : s.retried f (k + 1) =
        { s.retried f k with
          tries := (s.retried f k).tries + 1, elapsed := 0
          txOut := (s.retried f k).txOut ++ f.wire
          cnt := (s.retried f k).cnt.bump .txRetry } := by
      simp [State.retried, List.replicate_succ', Function.iterate_succ_apply', BitVec.ofNat_add]
    rw [hnext, Nat.succ_mul]
    exact (ih (by omega)).add hround

/-- Settles O59: whole rounds, and then `j` ticks that only count or the round that drops the head. -/
theorem retryTimeline : Obligations.RetryTimeline := by
  intro s f r rest hen hq htries helapsed T M
  refine ⟨fun k j hk hj hinput => ?sentAgain, fun hinput => ?dropped⟩
  case sentAgain =>
    have hrounds := State.TicksTo.retries hen hq htries helapsed k hk
    obtain ⟨e, he, hcount⟩ := State.TicksTo.counts (s := s.retried f k) hen (hq ▸ List.cons_ne_nil f r) j
      ((Nat.zero_add j).trans_le hj)
    exact ⟨_, (hrounds.add hcount).runsTo hinput, rfl, hq, s.retried_tries f hk, he.trans (Nat.zero_add j), rfl⟩
  case dropped =>
    have hrounds := State.TicksTo.retries hen hq htries helapsed (M + 1) (Nat.le_refl _)
    have hdrop := State.TicksTo.drops (s := s.retried f (M + 1)) hen hq (Nat.zero_le _)
      (by rw [s.retried_tries f (Nat.le_refl _)]; exact Nat.lt_succ_self _)
    have hticks := hrounds.add hdrop
    have hcount : (M + 2) * (T + 1) = (M + 1) * (T + 1) + (T - 0 + 1) := Nat.succ_mul (M + 1) (T + 1)
    rw [hcount] at hinput ⊢
    exact ⟨_, hticks.runsTo hinput, rfl, rfl, rfl, rfl, rfl, rfl, rfl⟩

/-! ### A bound from every state (R361) -/

/-- With `d` tries left beyond the present one, the head leaves within `d + 1` rounds. -/
theorem exists_ticksTo_dequeued (d : Nat) {s : State} {f : TxFrame} {r : List TxFrame} (hen : s.ctrl.en = true)
    (hq : s.txq = f :: r) (hrange : s.elapsed.toNat ≤ 65536) (hd : s.maxTries.toNat + 1 ≤ s.tries.toNat + d) :
    ∃ n t, n ≤ (d + 1) * (s.timeout.toNat + 1) ∧ s.TicksTo n t ∧ t.txq = r := by
  induction d generalizing s with
  | zero => exact ⟨_, _, by omega, .drops hen hq hrange hd, rfl⟩
  | succ d ih =>
    have hrounds : (d + 1 + 1) * (s.timeout.toNat + 1) = (d + 1) * (s.timeout.toNat + 1) + (s.timeout.toNat + 1) :=
      Nat.succ_mul _ _
    rcases Nat.lt_or_ge s.maxTries.toNat s.tries.toNat with hexhausted | hleft
    · exact ⟨_, _, by omega, .drops hen hq hrange hexhausted, rfl⟩
    · have hmax : s.maxTries.toNat < 256 := s.maxTries.isLt
      have htries : (s.tries + 1).toNat = s.tries.toNat + 1 := BitVec.toNat_add_of_lt (by simp; omega)
      obtain ⟨n, t, hn, hticks, ht⟩ := ih
        (s := { s with
          tries := s.tries + 1, elapsed := 0
          txOut := s.txOut ++ f.wire
          cnt := s.cnt.bump .txRetry })
        hen hq (Nat.zero_le _) (by show s.maxTries.toNat + 1 ≤ (s.tries + 1).toNat + d; omega)
      have hbound : n ≤ (d + 1) * (s.timeout.toNat + 1) := hn
      exact ⟨_, t, by omega, (State.TicksTo.retransmits hen hq hrange hleft).add hticks, ht⟩

/-- Settles O60. -/
theorem headLeavesInBoundedTicks : Obligations.HeadLeavesInBoundedTicks := by
  intro s f r rest h hen hq hinput
  obtain ⟨n, t, hn, hticks, ht⟩ :=
    exists_ticksTo_dequeued (s.maxTries.toNat + 1) hen hq h.elapsed_le (Nat.le_add_left _ _)
  have hsplit : s.input = List.replicate n .tick ++
      (List.replicate ((s.maxTries.toNat + 2) * (s.timeout.toNat + 1) - n) .tick ++ rest) := by
    rw [hinput, ← List.append_assoc, ← List.replicate_add, Nat.add_sub_cancel' hn]
  exact ⟨n, _, hn, hticks.runsTo hsplit, ht⟩

end Sys2Proof.Machine
